-- ==== Sys2Proof/Word.lean ====
section
/-!
DEFINITION. The plain word types of the CX-40: bytes on its links, station time, the jitter state.
-/

namespace Sys2Proof

/-- A byte of the radio link, of the configuration image or of the service line. -/
abbrev Byte := BitVec 8

/-- Station time: a millisecond count of 24 bits that wraps to 0 (00_scope, section 5). -/
abbrev Time := BitVec 24

/-- A 16-bit word: the state of the jitter generator (R30) and the remainder of the CRC (R24). -/
abbrev Word16 := BitVec 16

end Sys2Proof
end

