-- ==== Sys2Proof/Syntax.lean ====
section
/-!
DEFINITION. The commands of the CX-40: one constructor for each row of spec/opcode_table.json. The part has no
instruction words; a command is an event at one of its lines, a byte or character that arrives, the expiry of one of its
timers, or a service request.
-/

namespace Sys2Proof

/-- The electrical level of an input line. -/
inductive Level where
  | low
  | high
  deriving DecidableEq, Repr

/-- The two pulse channels of the handset receiver (R155). -/
inductive Channel where
  | throttle
  | mode
  deriving DecidableEq, Repr

/-- The operations and events of the part. -/
inductive Instr where
  /-- POWER_ON (R130): supply is applied. -/
  | powerOn
  /-- LOAD_BYTE_TIMEOUT (R180): an image byte has not arrived within 200 ms. -/
  | loadByteTimeout
  /-- LOAD_FAILURE (R181): the load that has ended in failure is reported. -/
  | loadFailure
  /-- LOAD_SUCCESS (R183): the load that has passed its checks succeeds. -/
  | loadSuccess
  /-- RESTART (R184): a restart request is taken. -/
  | restart
  /-- ENCODER_EDGE (R3): a rising edge on the encoder line. -/
  | encoderEdge
  /-- MARKER_CODE (R6): a code byte from the marker reader. -/
  | markerCode (code : Byte)
  /-- HITCH_EDGE (R170): the HITCH line goes to an electrical level. -/
  | hitchEdge (level : Level)
  /-- HITCH_DEBOUNCE_EXPIRY (R170): the HITCH debounce timer has run for 200 ms. -/
  | hitchDebounceExpiry
  /-- OBST_EDGE (R171): the OBST line goes to an electrical level. -/
  | obstEdge (level : Level)
  /-- OBST_DEBOUNCE_EXPIRY (R171): the OBST debounce timer has run for 200 ms. -/
  | obstDebounceExpiry
  /-- SYNC (R25): a pulse on the SYNC line. -/
  | sync
  /-- RECEIVED_FRAME (R27): the completed frame in the receive buffer goes to its checks. -/
  | receivedFrame
  /-- FRAME_TIMEOUT (R25): a frame has stayed open for 20 ms. -/
  | frameTimeout
  /-- TRANSMIT_REPORT (R44): the module delivers a byte of value 1. -/
  | transmitReport
  /-- BEACON_DUE (R32): the beacon due time is reached. -/
  | beaconDue
  /-- ARBITER_GRANT (R36): the idle transmitter is granted to the first waiting class. -/
  | arbiterGrant
  /-- BUSY_CHANGE (R37): the BUSY line is asserted or goes clear. -/
  | busyChange (asserted : Bool)
  /-- BUSY_ATTEMPT_TIMEOUT (R38): BUSY has been held for 500 ms in SENSE. -/
  | busyAttemptTimeout
  /-- BACKOFF_END (R37): the drawn slots have run out. -/
  | backoffEnd
  /-- FRAME_HANDED (R44): the last byte of the frame has passed to the module. -/
  | frameHanded
  /-- RADIO_TIMEOUT (R44): no transmit report within 50 ms of the handing. -/
  | radioTimeout
  /-- SPACING_STEP (R66): the Spacing Unit's 20 ms step timer expires. -/
  | spacingStep
  /-- DRIVE_STEP (R101): the Drive Unit's 20 ms step timer expires. -/
  | driveStep
  /-- PWM_PERIOD_END (R107): a PWM period ends. -/
  | pwmPeriodEnd
  /-- SWEEP (R57): the 100 ms sweep timer expires. -/
  | sweep
  /-- NARROW_STEP (R136): the Narrow Unit's 20 ms step timer expires. -/
  | narrowStep
  /-- ASK_DUE (R142): the scheduled ask time is reached. -/
  | askDue
  /-- ANSWER_WINDOW_END (R143): the window end of a round is reached. -/
  | answerWindowEnd
  /-- ANSWER_EXPIRY (R151): W_ans has passed since an answer was queued. -/
  | answerExpiry
  /-- WAIT_AGE_EXPIRY (R149): the 100 ms wait-age timer expires. -/
  | waitAgeExpiry
  /-- THROTTLE_PULSE (R156): a pulse on the throttle line, with its width in µs. -/
  | throttlePulse (width : Nat)
  /-- MODE_PULSE (R157): a pulse on the mode line, with its width in µs. -/
  | modePulse (width : Nat)
  /-- CHANNEL_ABSENT (R155): a channel has had no valid pulse for 250 ms. -/
  | channelAbsent (channel : Channel)
  /-- STOP_TIMER_EXPIRY (R159): the STOP timer has run for 1,000 ms. -/
  | stopTimerExpiry
  /-- RESET_GESTURE (R162): the reset timer has run for 3,000 ms. -/
  | resetGesture
  /-- LAMP_TIMEBASE_BOUNDARY (R176): the lamp timebase has crossed a pattern boundary. -/
  | lampTimebaseBoundary
  /-- STATUS (R187): the service request STATUS. -/
  | status
  /-- PEERS (R61): the service request PEERS. -/
  | peers
  /-- HOLDS (R131): the service request HOLDS. -/
  | holds
  /-- NARROWS (R153): the service request NARROWS. -/
  | narrows
  /-- COUNTERS (R187): the service request COUNTERS. -/
  | counters
  /-- CONFIG (R188): the service request CONFIG. -/
  | config
  /-- CLEAR (R187): the service request CLEAR. -/
  | clear
  /-- RESUME (R161): the service request RESUME. -/
  | resume
  /-- RESTART_REQUEST (R187): the service request RESTART. -/
  | restartRequest
  /-- UNKNOWN_WORD (R187): any other service word. -/
  | unknownWord
  /-- RESPONSE_END (R186): the response being sent has finished. -/
  | responseEnd
  /-- RECEIVED_FRAME_BYTE (R25): a byte from the radio module. -/
  | receivedFrameByte (byte : Byte)
  /-- IMAGE_BYTE (R180): a byte of the configuration image. -/
  | imageByte (byte : Byte)
  /-- RECEIVED_CHARACTER (R186): a character on the service line. -/
  | receivedCharacter (char : Byte)
  deriving DecidableEq, Repr

end Sys2Proof
end

