-- ==== Sys2Proof/Decode.lean ====
section
/-!
DEFINITION. The command that a word of the opcode table spells. spec/opcode_table.json gives no row any bits: the CX-40
is a block that takes events, and none of them is encoded as an instruction word. So no word spells a command.
-/

namespace Sys2Proof

/-- The command that the `nbits` low bits of `w` spell by the opcode table's bits: none, for no row has bits
(log entry 23). -/
def decodeTableWord (_nbits _w : Nat) : Option Instr := none

end Sys2Proof
end

