-- ==== Sys2Proof/Config.lean ====
section
/-!
DEFINITION. What the data book leaves open: one free value, a choice that nothing constrains. It is read through
`Sys2Proof.Machine.pickFree` and nowhere else.
-/

namespace Sys2Proof

/-- DESIGN CHOICE (log entries 3, 5, 6 and 7), safe. The free choice made at each place where the book says that either
of several things that come together may be taken first: the n-th choice of a run. It has no body, so a statement that
holds of the model holds for every choice. -/
opaque Config.freeChoice : Nat → Nat

end Sys2Proof
end

