-- ==== Sys2Proof/Machine/State.lean ====
section
/-!
DEFINITION. The state of one CX-40 station, block by block as the data book gives it (00_scope section 3), as plain data,
and the state right after power-on. Lengths are in mm unless a name ends in Um (µm), times in ms, speeds in mm/s.
-/

namespace Sys2Proof.Machine

/-- Why the machine stops: it never does. The data book describes no stopped machine (LOCKOUT is a mode in which the
station goes on), so no command faults and this type has no constructor. -/
inductive Fault
  deriving DecidableEq, Repr

/-- Why a command is refused. -/
inductive Refusal where
  /-- Raised by `exec` for a command that has no meaning yet, by its mnemonic. No arm raises it. Safe: the machine stops
  where the part would go on. -/
  | notModelled (mnemonic : String)
  deriving DecidableEq, Repr

/-! ### Names of the data book -/

/-- Direction of travel (R9). -/
inductive Direction where
  | up
  | down
  deriving DecidableEq, Repr

/-- Position quality (R8). -/
inductive Quality where
  | good
  | drift
  | poor
  | unknown
  deriving DecidableEq, Repr

/-- The hitch state the Road Tracker holds (R11). -/
inductive HitchState where
  | uncoupled
  | coupled
  deriving DecidableEq, Repr

/-- The role the Spacing Unit holds (R67). -/
inductive Role where
  | parked
  | head
  | follow
  deriving DecidableEq, Repr

/-- The station mode the Hold Stack derives (00_scope section 4, R125). -/
inductive Mode where
  | start
  | parked
  | head
  | follow
  | wait
  | halt
  | lockout
  deriving DecidableEq, Repr

/-- Standing with a narrow (R134). -/
inductive Relation where
  | none
  | asking
  | waiting
  | holding
  deriving DecidableEq, Repr

/-- Phase of a WAITING relation (R134). -/
inductive Phase where
  | deferred
  | contesting
  deriving DecidableEq, Repr

/-- A convoy order code (R163). -/
inductive OrderCode where
  | none
  | stopAll
  | resumeAll
  deriving DecidableEq, Repr

/-- The handset band (R157). -/
inductive Band where
  | auto
  | drive
  | stop
  | absent
  deriving DecidableEq, Repr

/-- Polarity of a switch line (R169). -/
inductive Polarity where
  | activeLow
  | activeHigh
  deriving DecidableEq, Repr

/-- Obstruction mode (section 10.2). -/
inductive ObstMode where
  | momentary
  | latched
  deriving DecidableEq, Repr

/-- Causes of a hold (R116). -/
inductive HoldCause where
  | handsetStop
  | obstruction
  | linkLoss
  | convoyStop
  | narrowWait
  deriving DecidableEq, Repr

/-- The lockout cause (R127). -/
inductive LockoutCause where
  | none
  | config
  | holdOverrun
  deriving DecidableEq, Repr

/-- The states of the motor bridge (section 6.6). -/
inductive OutputState where
  | drive
  | brake
  | brakeHold
  | coast
  deriving DecidableEq, Repr

/-- The classes of frame that wait for the transmitter (R35). -/
inductive FrameClass where
  | object
  | ask
  | beacon
  deriving DecidableEq, Repr

/-- A lamp line as the part drives it (R176). -/
inductive LineDrive where
  | on
  | off
  | undriven
  deriving DecidableEq, Repr

/-- A timer that runs: it expires when the time since its start reaches its period (00_scope section 5). -/
structure Timer where
  start : Time
  period : Nat
  deriving DecidableEq, Repr

/-! ### The working configuration (R179 to R182) -/

/-- The fields of the station section, in image order (R179). -/
inductive StationField where
  | lTractor | lTrailer | eS | readerOffset | gradeBiasEnable | hitchPolarity | obstPolarity | obstMode
  | brakeFitted | amberFitted | headFitted | pB | wAhead | hLimit | g0 | th | kg
  | vMax | vCruise | vCreep | aUp | aDn | gJoin | gSplit | tSplit | tPark | kFf | kP | kI
  deriving DecidableEq, Repr

/-- The ranged fields of the fixed part of the route section (R179). -/
inductive RouteField where
  | lRoad | snap | drift | dClaim | dStop | nAsk | askInterval | wAns
  deriving DecidableEq, Repr

/-- A field of the image that R182 brings within its range and may mark clamped. -/
inductive ConfigField where
  | station (f : StationField)
  | route (f : RouteField)
  | gradeBias (segment : Nat)
  | zoneCap (segment : Nat)
  deriving DecidableEq, Repr

/-- Why a marker entry is disabled (R182). -/
inductive MarkerFault where
  | code
  | kind
  | range
  | duplicate
  deriving DecidableEq, Repr

/-- Why a narrow entry is disabled (R132). -/
inductive NarrowFault where
  | order
  | range
  | overlap
  | spacing
  deriving DecidableEq, Repr

/-- A marker entry (R1). The kind byte is 0 POSITION, 1 TURN to UP, 2 TURN to DOWN; an entry with another is disabled. -/
structure MarkerEntry where
  code : Nat
  position : Nat
  kind : Nat
  disabled : Option MarkerFault
  deriving DecidableEq, Repr

/-- A narrow entry (R1, R132). -/
structure NarrowEntry where
  lo : Nat
  hi : Nat
  disabled : Option NarrowFault
  deriving DecidableEq, Repr

/-- A segment entry (R1): grade bias for UP travel and zone cap code. -/
structure SegmentEntry where
  gradeBias : Int
  capCode : Nat
  deriving DecidableEq, Repr

/-- The working configuration (R179, R182). P_b is in the image's 10 ms units. -/
structure WorkingConfig where
  stationId : Nat
  lTractor : Nat
  lTrailer : Nat
  eS : Nat
  readerOffset : Nat
  gradeBiasOn : Bool
  hitchPolarity : Polarity
  obstPolarity : Polarity
  obstMode : ObstMode
  brakeFitted : Bool
  amberFitted : Bool
  headFitted : Bool
  pB : Nat
  wAhead : Nat
  hLimit : Nat
  g0 : Nat
  th : Nat
  kg : Nat
  vMax : Nat
  vCruise : Nat
  vCreep : Nat
  aUp : Nat
  aDn : Nat
  gJoin : Nat
  gSplit : Nat
  tSplit : Nat
  tPark : Nat
  kFf : Nat
  kP : Nat
  kI : Nat
  lRoad : Nat
  snap : Nat
  drift : Nat
  dClaim : Nat
  dStop : Nat
  nAsk : Nat
  askInterval : Nat
  wAns : Nat
  markers : List MarkerEntry
  narrows : List NarrowEntry
  segments : List SegmentEntry
  deriving DecidableEq, Repr

/-- The load reason the CONFIG request reports (R180, R188). -/
inductive LoadReason where
  | none
  | loading
  | timeout
  | version
  | length
  | sum
  | id
  | structure
  deriving DecidableEq, Repr

/-- How a load has ended: `none` when every check passed, else the reason (R180). -/
abbrev LoadOutcome := Option LoadReason

/-- The progress of the Configuration Loader (R180). `ended` is the load whose outcome is settled and not yet taken by
LOAD_SUCCESS or LOAD_FAILURE (log entry 16). -/
inductive LoadPhase where
  | idle
  | reading (buffer : List Byte) (lastByteAt : Time)
  | ended (buffer : List Byte) (outcome : LoadOutcome)
  deriving DecidableEq, Repr

/-- The Configuration Loader (R180, R182, R189). The disabled reasons stand with the entries of the working
configuration. -/
structure Loader where
  phase : LoadPhase
  reason : LoadReason
  clamped : List ConfigField
  deriving DecidableEq, Repr

/-! ### Road Tracker (chapter 1) -/

structure RoadTracker where
  posUm : Nat
  direction : Direction
  quality : Quality
  sinceMarkerUm : Nat
  turnSpacing : Bool
  turnNarrow : Bool
  hitch : HitchState
  rigLength : Nat
  deriving DecidableEq, Repr

/-! ### Air Port (chapter 2) -/

/-- A received frame that is open (R25): its arrival stamp, the count byte once it has come, the frame bytes taken so
far, and those of them stored. -/
structure OpenFrame where
  stamp : Time
  count : Option Nat
  taken : Nat
  buffer : List Byte
  deriving DecidableEq, Repr

/-- A received frame that is complete and goes to the checks of R27; `malformed` when R25 closed it so. -/
structure CompleteFrame where
  stamp : Time
  buffer : List Byte
  malformed : Bool
  deriving DecidableEq, Repr

/-- The receiving side of the Air Port (R25). -/
inductive Reception where
  | closed
  | opened (f : OpenFrame)
  | complete (f : CompleteFrame)
  deriving DecidableEq, Repr

/-- The transmitter (section 2.7). In SENSE, `busySince` is the start of the 500 ms measure of R38 while BUSY is
asserted; in SEND, `bytes` is the transmit frame as the module gets it, the count byte and then the frame bytes (R21, R44),
and `handed` is the moment of handing once it has come (R44). -/
inductive Transmitter where
  | idle
  | sense (cls : FrameClass) (attempts : Nat) (busySince : Option Time)
  | backoff (cls : FrameClass) (attempts : Nat) (slots : Timer)
  | send (cls : FrameClass) (bytes : List Byte) (handed : Option Time)
  deriving DecidableEq, Repr

/-- The step sample (R40). -/
structure StepSample where
  front : Nat
  direction : Direction
  quality : Quality
  speed : Nat
  braking : Bool
  time : Time
  deriving DecidableEq, Repr

structure AirPort where
  busy : Bool
  reception : Reception
  transmitter : Transmitter
  rotation : List FrameClass
  sequence : Byte
  firstCount : Nat
  beaconNow : Bool
  beaconDue : Bool
  beaconTimer : Option Timer
  sample : Option StepSample
  jitter : Word16
  clash : Bool
  deriving DecidableEq, Repr

/-! ### Peer Table (chapter 3) -/

/-- The narrow part of a peer record (R48). -/
structure NarrowPart where
  index : Nat
  relation : Relation
  waitAge : Nat
  deriving DecidableEq, Repr

/-- The order part of a peer record (R48). -/
structure OrderPart where
  code : OrderCode
  seq : Nat
  hop : Nat
  deriving DecidableEq, Repr

/-- A peer record (R47). -/
structure PeerRecord where
  id : Nat
  lastSequence : Byte
  stamp : Time
  lead : Nat
  position : Nat
  direction : Direction
  quality : Quality
  speed : Nat
  braking : Bool
  rigLength : Nat
  mode : Mode
  convoyId : Nat
  memberIndex : Nat
  period : Nat
  narrowPart : Option NarrowPart
  orderPart : Option OrderPart
  first : Bool
  deriving DecidableEq, Repr

structure PeerTable where
  records : List PeerRecord
  sweepTimer : Time
  deriving DecidableEq, Repr

/-! ### Spacing Unit (chapters 4 and 5) -/

/-- The predecessor id, 1 to 30, with its gap (R67). -/
structure Predecessor where
  id : Nat
  gap : Int
  deriving DecidableEq, Repr

/-- A timer that is stopped (`none`) or running from a station time. -/
abbrev Running := Option Time

structure SpacingUnit where
  predecessor : Option Predecessor
  role : Role
  convoyId : Nat
  memberIndex : Nat
  splitTimer : Running
  parkTimer : Running
  wakeTimer : Running
  lostId : Nat
  autoEntry : Bool
  stepTimer : Running
  vRef : Nat
  closeIn : Bool
  braking : Bool
  deriving DecidableEq, Repr

/-! ### Drive Unit (chapter 6) -/

/-- An output of the bridge: its state and its signed duty (R100). -/
structure BridgeOutput where
  state : OutputState
  duty : Int
  deriving DecidableEq, Repr

structure DriveUnit where
  edgeCount : Nat
  vMeas : Nat
  integral : Int
  buffer : BridgeOutput
  updatePending : Bool
  applied : BridgeOutput
  obstructionKill : Bool
  stepTimer : Running
  deriving DecidableEq, Repr

/-! ### Hold Stack (chapter 7) -/

/-- A hold record (R116). -/
structure HoldRecord where
  cause : HoldCause
  pushedAt : Time
  modeBefore : Mode
  vRefAtPush : Nat
  released : Bool
  lostId : Option Nat
  deriving DecidableEq, Repr

/-- The Hold Stack, top record first, and the lockout cause (R117, R127). -/
structure HoldStack where
  stack : List HoldRecord
  lockout : LockoutCause
  deriving DecidableEq, Repr

/-! ### Narrow Unit (chapter 8) -/

/-- The ask state of a record (R142). An outstanding ask that the Air Port has granted is marked so (R35, R42; DEDUCED,
log entry 12). -/
inductive AskState where
  | none
  | scheduled (at_ : Timer)
  | outstanding (granted : Bool)
  deriving DecidableEq, Repr

/-- A narrow record (R134). -/
structure NarrowRecord where
  relation : Relation
  phase : Option Phase
  asksSent : Nat
  ask : AskState
  windowEnd : Option Timer
  waitAge : Nat
  inherited : Bool
  conflictSeen : Bool
  deriving DecidableEq, Repr

/-- An entry of the answer queue (R150). -/
structure AnswerEntry where
  askerId : Nat
  askerDirection : Direction
  askerWaitAge : Nat
  narrow : Nat
  queuedAt : Time
  inHand : Bool
  deriving DecidableEq, Repr

/-- The Narrow Unit: one record for each configured narrow, in index order, and the answer queue, oldest first. -/
structure NarrowUnit where
  records : List NarrowRecord
  queue : List AnswerEntry
  stepTimer : Running
  waitAgeTimer : Running
  deriving DecidableEq, Repr

/-! ### Handset Decoder and Order Unit (chapter 9) -/

/-- Presence of a pulse channel and the time of its last valid pulse (R155). -/
structure PulseChannel where
  present : Bool
  lastPulse : Time
  deriving DecidableEq, Repr

/-- The Handset Decoder. `stopHeld` is set once the STOP timer's 1,000 ms have been taken for this entry into STOP
(R159). -/
structure Handset where
  throttleChannel : PulseChannel
  modeChannel : PulseChannel
  throttle : Nat
  lastWidth : Nat
  band : Band
  stopTimer : Running
  stopHeld : Bool
  resetTimer : Running
  resetLock : Bool
  resumePending : Bool
  deriving DecidableEq, Repr

/-- The order record, last issued and the unsynchronised flag (R163). -/
structure OrderUnit where
  code : OrderCode
  seq : Nat
  origin : Nat
  hop : Nat
  lastIssued : OrderCode
  unsynchronised : Bool
  deriving DecidableEq, Repr

/-! ### Sensor and Lamp block (chapter 10) -/

/-- The two switch lines as they stand, their conditioned levels (set: ACTIVE) and debounce timers (R169). -/
structure Sensors where
  hitchLine : Level
  obstLine : Level
  hitchActive : Bool
  obstActive : Bool
  hitchTimer : Running
  obstTimer : Running
  deriving DecidableEq, Repr

/-- The lamp timebase and the three lamp lines as driven (R176). -/
structure Lamps where
  timebase : Nat
  brake : LineDrive
  amber : LineDrive
  head : LineDrive
  deriving DecidableEq, Repr

/-! ### Service Line (chapter 11) -/

/-- A service request (R187). -/
inductive Request where
  | status
  | peers
  | holds
  | narrows
  | counters
  | config
  | clear
  | resume
  | restart
  | unknown
  deriving DecidableEq, Repr

/-- The value of a response field (R188): a number, an absent value, a yes-or-no value, a name, or a name with a number
after a colon. -/
inductive FieldValue where
  | number (n : Int)
  | absent
  | yesNo (b : Bool)
  | word (w : String)
  | tagged (w : String) (n : Nat)
  deriving DecidableEq, Repr

/-- A field of a response line: its name and its value (R188). -/
structure LineField where
  name : String
  value : FieldValue
  deriving DecidableEq, Repr

/-- A line of a response (R187, R188). -/
inductive ServiceText where
  | ok
  | err
  | finish
  | fields (fs : List LineField)
  deriving DecidableEq, Repr

/-- A response being sent: the request it answers and all its lines. -/
structure Response where
  request : Request
  lines : List ServiceText
  deriving DecidableEq, Repr

/-- The Service Line (R186): the partly collected word, whether it has passed 16 characters, the response being sent and
the pending request. -/
structure Service where
  word : List Byte
  overlong : Bool
  response : Option Response
  pendingRequest : Option Request
  deriving DecidableEq, Repr

/-! ### Event counters -/

/-- The 22 event counters (R188), each of the block that counts (R18, R45, R64, R99, R113, R153, R178, R189). -/
structure Counters where
  largeCorrection : Nat
  unknownMarker : Nat
  unreadableMarker : Nat
  malformed : Nat
  crcError : Nat
  unknownKind : Nat
  idClash : Nat
  beaconDropped : Nat
  askDropped : Nat
  answerWithdrawn : Nat
  radioTimeout : Nat
  oldSequence : Nat
  tableFull : Nat
  closeIn : Nat
  overspeed : Nat
  unclaimedEntry : Nat
  lateObjection : Nat
  narrowConflict : Nat
  answerDropped : Nat
  answerExpired : Nat
  obstructionStop : Nat
  requestDropped : Nat
  deriving DecidableEq, Repr

/-! ### The station -/

/-- The state of the station. `freeCount` is the model's own: how many free choices have been made
(`Sys2Proof.Config.freeChoice`, log entry 9). `pending` is the queue of commands that wait, first in, first out. -/
structure State where
  time : Time
  config : Option WorkingConfig
  loader : Loader
  road : RoadTracker
  air : AirPort
  peers : PeerTable
  spacing : SpacingUnit
  drive : DriveUnit
  holds : HoldStack
  narrow : NarrowUnit
  handset : Handset
  order : OrderUnit
  sensors : Sensors
  lamps : Lamps
  service : Service
  counters : Counters
  freeCount : Nat
  pending : List Instr
  deriving DecidableEq, Repr

/-! ### Power-on values -/

/-- The Configuration Loader as a load begins at a station time (R180, R189). -/
def Loader.begun (now : Time) : Loader :=
  { phase := .reading [] now, reason := .loading, clamped := [] }

/-- R19. -/
def RoadTracker.powerOn : RoadTracker :=
  { posUm := 0, direction := .up, quality := .unknown, sinceMarkerUm := 0, turnSpacing := false, turnNarrow := false,
    hitch := .uncoupled, rigLength := 0 }

/-- R46. The BUSY line is the module's and stands as given. -/
def AirPort.powerOn (busy : Bool) : AirPort :=
  { busy, reception := .closed, transmitter := .idle, rotation := [.object, .ask, .beacon], sequence := 0,
    firstCount := 4, beaconNow := false, beaconDue := false, beaconTimer := none, sample := none, jitter := 1,
    clash := false }

/-- R65. -/
def PeerTable.powerOn : PeerTable := { records := [], sweepTimer := 0 }

/-- R83, R99. -/
def SpacingUnit.powerOn : SpacingUnit :=
  { predecessor := none, role := .parked, convoyId := 0, memberIndex := 0, splitTimer := none, parkTimer := none,
    wakeTimer := none, lostId := 0, autoEntry := false, stepTimer := none, vRef := 0, closeIn := false,
    braking := false }

/-- The bridge undriven (section 6.6). -/
def BridgeOutput.coast : BridgeOutput := { state := .coast, duty := 0 }

/-- The bridge at rest, windings shorted for the whole period (section 6.6). -/
def BridgeOutput.brakeHold : BridgeOutput := { state := .brakeHold, duty := 0 }

/-- R114. -/
def DriveUnit.powerOn : DriveUnit :=
  { edgeCount := 0, vMeas := 0, integral := 0, buffer := .coast, updatePending := false, applied := .coast,
    obstructionKill := false, stepTimer := none }

/-- R130. -/
def HoldStack.empty : HoldStack := { stack := [], lockout := .none }

/-- R154, before any narrow is configured. -/
def NarrowUnit.powerOn : NarrowUnit := { records := [], queue := [], stepTimer := none, waitAgeTimer := none }

/-- R168. The last pulse times and the last throttle width are DESIGN CHOICE (log entry 21). -/
def Handset.powerOn : Handset :=
  { throttleChannel := { present := false, lastPulse := 0 }, modeChannel := { present := false, lastPulse := 0 },
    throttle := 0, lastWidth := 0, band := .absent, stopTimer := none, stopHeld := false, resetTimer := none,
    resetLock := false, resumePending := false }

/-- R168. -/
def OrderUnit.initial : OrderUnit :=
  { code := .none, seq := 0, origin := 0, hop := 0, lastIssued := .none, unsynchronised := false }

/-- R178. The two lines stand at the levels given. -/
def Sensors.powerOn (hitchLine obstLine : Level) : Sensors :=
  { hitchLine, obstLine, hitchActive := false, obstActive := false, hitchTimer := none, obstTimer := none }

/-- R176, R178. -/
def Lamps.powerOn : Lamps := { timebase := 0, brake := .undriven, amber := .undriven, head := .undriven }

/-- R186. -/
def Service.idle : Service := { word := [], overlong := false, response := none, pendingRequest := none }

/-- 00_scope section 5: every counter counts from 0. -/
def Counters.zero : Counters :=
  { largeCorrection := 0, unknownMarker := 0, unreadableMarker := 0, malformed := 0, crcError := 0, unknownKind := 0,
    idClash := 0, beaconDropped := 0, askDropped := 0, answerWithdrawn := 0, radioTimeout := 0, oldSequence := 0,
    tableFull := 0, closeIn := 0, overspeed := 0, unclaimedEntry := 0, lateObjection := 0, narrowConflict := 0,
    answerDropped := 0, answerExpired := 0, obstructionStop := 0, requestDropped := 0 }

/-- The station right after power-on (R130 and the power-on values of each chapter): station time 0, mode START, a load
begun. The three input lines and `freeCount` are DESIGN CHOICE (log entries 8 and 9). -/
def State.reset : State :=
  { time := 0, config := none, loader := .begun 0, road := .powerOn, air := .powerOn false, peers := .powerOn,
    spacing := .powerOn, drive := .powerOn, holds := .empty, narrow := .powerOn, handset := .powerOn,
    order := .initial, sensors := .powerOn .low .low, lamps := .powerOn, service := .idle, counters := .zero,
    freeCount := 0, pending := [] }

/-! ### Writing one block -/

def State.setTime (s : State) (x : Time) : State := { s with time := x }
def State.setConfig (s : State) (x : Option WorkingConfig) : State := { s with config := x }
def State.setLoader (s : State) (x : Loader) : State := { s with loader := x }
def State.setRoad (s : State) (x : RoadTracker) : State := { s with road := x }
def State.setAir (s : State) (x : AirPort) : State := { s with air := x }
def State.setPeers (s : State) (x : PeerTable) : State := { s with peers := x }
def State.setSpacing (s : State) (x : SpacingUnit) : State := { s with spacing := x }
def State.setDrive (s : State) (x : DriveUnit) : State := { s with drive := x }
def State.setHolds (s : State) (x : HoldStack) : State := { s with holds := x }
def State.setNarrow (s : State) (x : NarrowUnit) : State := { s with narrow := x }
def State.setHandset (s : State) (x : Handset) : State := { s with handset := x }
def State.setOrder (s : State) (x : OrderUnit) : State := { s with order := x }
def State.setSensors (s : State) (x : Sensors) : State := { s with sensors := x }
def State.setLamps (s : State) (x : Lamps) : State := { s with lamps := x }
def State.setService (s : State) (x : Service) : State := { s with service := x }
def State.setCounters (s : State) (x : Counters) : State := { s with counters := x }
def State.setFreeCount (s : State) (x : Nat) : State := { s with freeCount := x }
def State.setPending (s : State) (x : List Instr) : State := { s with pending := x }

end Sys2Proof.Machine
end

