-- ==== Sys2Proof/Machine/Ops.lean ====
section
/-!
DEFINITION. The operations every block uses: time, counters, the free choice, the working configuration and the mode, the
jitter generator and the beacon schedule, and the Road Tracker's readings.
-/

namespace Sys2Proof.Machine

/-! ### Time (00_scope section 5) -/

/-- An age or elapsed time: the difference of two station times modulo 16,777,216. -/
def elapsed (now start : Time) : Nat := (now - start).toNat

/-- A timer has expired when the time since its start has reached its period. -/
def Timer.expired (t : Timer) (now : Time) : Bool := decide (t.period ≤ elapsed now t.start)

/-- How far ahead a timer's expiry still lies: 0 once it is reached. -/
def Timer.remaining (t : Timer) (now : Time) : Nat := t.period - elapsed now t.start

/-- A stopped-or-running timer has run for at least `period` ms. -/
def Running.ranFor (t : Running) (now : Time) (period : Nat) : Bool :=
  match t with
  | none => false
  | some start => decide (period ≤ elapsed now start)

/-- A periodic timer that has expired starts its next period where the last one ended (DEDUCED, log entry 27). -/
def Running.again (t : Running) (period : Nat) : Running := t.map (· + BitVec.ofNat 24 period)

/-! ### Arithmetic -/

/-- A counter saturates at 65,535. -/
def bump (n : Nat) : Nat := min (n + 1) 65535

/-- `x` brought within `lo..hi`. -/
def clampNat (lo hi x : Nat) : Nat := min hi (max lo x)

/-- `x` brought within `lo..hi`. -/
def clampInt (lo hi x : Int) : Int := min hi (max lo x)

/-- Division of signed values truncates toward zero (00_scope section 5). -/
def truncDiv (a b : Int) : Int := a.tdiv b

/-! ### Free choices -/

/-- The result that is taken where the book leaves open which of several orders is taken. Where they all agree it is
their common value; where they differ, the free choice numbered `n` picks one. -/
def pickFree (n : Nat) (results : List State) (fallback : State) : State :=
  match results with
  | [] => fallback
  | r :: rest => if rest.all (fun x => decide (x = r)) then r else (r :: rest).getD (Config.freeChoice n % (r :: rest).length) r

/-- Do one of several things, the book leaving open which: in practice one of the orders in which things that come
together may be taken. -/
def freeOrder (orders : List (State → State)) (s : State) : State :=
  let s1 := s.setFreeCount (s.freeCount + 1)
  pickFree s.freeCount (orders.map (fun f => f s1)) s1

/-! ### Configuration and mode -/

/-- A configuration with nothing in it, read where none is held (log entry 31). -/
def WorkingConfig.blank : WorkingConfig :=
  { stationId := 0, lTractor := 0, lTrailer := 0, eS := 0, readerOffset := 0, gradeBiasOn := false,
    hitchPolarity := .activeLow, obstPolarity := .activeLow, obstMode := .momentary, brakeFitted := false,
    amberFitted := false, headFitted := false, pB := 0, wAhead := 0, hLimit := 0, g0 := 0, th := 0, kg := 0, vMax := 0,
    vCruise := 0, vCreep := 0, aUp := 0, aDn := 0, gJoin := 0, gSplit := 0, tSplit := 0, tPark := 0, kFf := 0, kP := 0,
    kI := 0, lRoad := 0, snap := 0, drift := 0, dClaim := 0, dStop := 0, nAsk := 0, askInterval := 0, wAns := 0,
    markers := [], narrows := [], segments := [] }

/-- The working configuration as its readers see it. -/
def State.cfg (s : State) : WorkingConfig := s.config.getD .blank

/-- Own id: 0 while no configuration is held. -/
def State.ownId (s : State) : Nat := s.cfg.stationId

/-- The configured beacon period in ms: the image holds it in 10 ms units (R179). -/
def WorkingConfig.beaconPeriod (c : WorkingConfig) : Nat := 10 * c.pB

/-- A load is in progress: none has yet ended in success or failure (R125). -/
def State.loading (s : State) : Bool := decide (s.loader.phase ≠ .idle)

/-- The stack holds an unreleased record of the cause. -/
def HoldStack.unreleased (h : HoldStack) (c : HoldCause) : Bool := h.stack.any (fun r => decide (r.cause = c) && !r.released)

/-- The stack holds a record of the cause, released or not. -/
def HoldStack.has (h : HoldStack) (c : HoldCause) : Bool := h.stack.any (fun r => decide (r.cause = c))

/-- A role as the mode it gives when nothing holds the station (00_scope section 4). -/
def Role.asMode : Role → Mode
  | .parked => .parked
  | .head => .head
  | .follow => .follow

/-- The mode from the four things it is derived from (R125). -/
def deriveMode (loading : Bool) (lockout : LockoutCause) (stack : List HoldRecord) (role : Role) : Mode :=
  if loading then .start
  else if lockout ≠ .none then .lockout
  else if stack.any (fun r => !r.released && decide (r.cause ≠ .narrowWait)) then .halt
  else if stack.any (fun r => !r.released) then .wait
  else role.asMode

/-- The station mode as it stands (R125, R126). -/
def State.mode (s : State) : Mode := deriveMode s.loading s.holds.lockout s.holds.stack s.spacing.role

/-- The station holds a valid configuration: not in START nor in LOCKOUT with cause CONFIG (R5). -/
def State.validConfig (s : State) : Bool := !s.loading && decide (s.holds.lockout ≠ .config)

/-! ### Road Tracker readings -/

/-- The outward position in mm (R2). -/
def State.front (s : State) : Nat := s.road.posUm / 1000

/-- The rear of a rig, signed and not clamped (R15). -/
def rearOf (d : Direction) (front : Int) (length : Nat) : Int :=
  match d with
  | .up => front - length
  | .down => front + length

/-- Own rear (R15). -/
def State.rear (s : State) : Int := rearOf s.road.direction s.front s.road.rigLength

/-- The opposite direction. -/
def Direction.opposite : Direction → Direction
  | .up => .down
  | .down => .up

/-- The rig length for a hitch state (R12). -/
def WorkingConfig.rigLength (c : WorkingConfig) : HitchState → Nat
  | .coupled => c.lTractor + c.lTrailer
  | .uncoupled => c.lTractor

/-! ### The jitter generator (section 2.4) -/

/-- One step of the shift generator: bits 16, 14, 13 and 11, counted from the most significant as bit 1, feed bit 1
(R30). -/
def jitterStep (x : Word16) : Word16 :=
  let feedback := (x.getLsbD 0 ^^ x.getLsbD 2) ^^ (x.getLsbD 3 ^^ x.getLsbD 5)
  (x >>> 1) ||| (if feedback then 0x8000#16 else 0#16)

/-- The number the next draw returns (R30). -/
def State.drawValue (s : State) : Nat := (jitterStep s.air.jitter).toNat

/-- The state after a draw (R30). -/
def State.afterDraw (s : State) : State := s.setAir { s.air with jitter := jitterStep s.air.jitter }

/-- The seed from own id and station time (R31). -/
def jitterSeed (id : Nat) (now : Time) : Word16 :=
  let x := BitVec.ofNat 16 (id * 2053 + now.toNat % 65536)
  if x = 0#16 then 1#16 else x

/-- The generator seeded at this moment (R31). -/
def seedJitter (s : State) : State := s.setAir { s.air with jitter := jitterSeed s.ownId s.time }

/-! ### The beacon schedule (section 2.5) -/

/-- The effective beacon period (R32). -/
def State.effectivePeriod (s : State) : Nat :=
  if s.mode = .parked then 4 * s.cfg.beaconPeriod else s.cfg.beaconPeriod

/-- The next beacon due time set from this moment for an effective period: 7 P / 8 and a draw mod (P / 4 + 1) later
(R32, R34). -/
def scheduleBeacon (period : Nat) (s : State) : State :=
  let t : Timer := { start := s.time, period := 7 * period / 8 + s.drawValue % (period / 4 + 1) }
  s.afterDraw.setAir { s.afterDraw.air with beaconTimer := some t }

/-- The due time lies more than P_b + P_b / 4 ahead (R34). -/
def State.beaconFarAhead (s : State) : Bool :=
  match s.air.beaconTimer with
  | none => false
  | some t => decide (s.cfg.beaconPeriod + s.cfg.beaconPeriod / 4 < t.remaining s.time)

/-- A change of the mode as an event to the beacon schedule: a station that leaves PARKED with its due time far ahead
sets it afresh (R34, R126). -/
def noteModeChange (before : Mode) (s : State) : State :=
  if before = .parked ∧ s.mode ≠ .parked ∧ s.beaconFarAhead = true then scheduleBeacon s.cfg.beaconPeriod s else s

/-- The Narrow Unit's request for a beacon now (R33). -/
def requestBeaconNow (s : State) : State := s.setAir { s.air with beaconNow := true }

/-! ### Parked again -/

/-- The Spacing Unit back in role PARKED, HEAD of nothing: role PARKED, convoy id own id, index 0, timers stopped
(R76, R79, R123). -/
def SpacingUnit.parkedAs (u : SpacingUnit) (ownId : Nat) : SpacingUnit :=
  { u with role := .parked, convoyId := ownId, memberIndex := 0, splitTimer := none, parkTimer := none,
           wakeTimer := none }

end Sys2Proof.Machine
end

