-- ==== Sys2Proof/Machine/Drive.lean ====
section
/-!
DEFINITION. The Drive Unit (chapter 6): the drive step, the buffered output and the notices it takes.
-/

namespace Sys2Proof.Machine

/-- Full braking, or the hold of a rig measured at rest (R108, R109). -/
def killOutput (vMeas : Nat) : BridgeOutput :=
  if 0 < vMeas then { state := .brake, duty := -1023 } else .brakeHold

/-- An output written to the bridge and to the buffer at once, with nothing left pending and I at 0 (R108, R109, R110,
R115). -/
def DriveUnit.force (d : DriveUnit) (out : BridgeOutput) : DriveUnit :=
  { d with applied := out, buffer := out, updatePending := false, integral := 0 }

/-- What a kill notice does to the bridge, by the V_meas of the last drive step (R108). -/
def DriveUnit.kill (d : DriveUnit) : DriveUnit := d.force (killOutput d.vMeas)

/-- A close-in notice (R108). -/
def closeInNotice (s : State) : State := s.setDrive s.drive.kill

/-- An obstruction notice: it also sets the obstruction kill flag (R108). -/
def obstructionKillNotice (s : State) : State := s.setDrive { s.drive.kill with obstructionKill := true }

/-- The Hold Stack's release notice for OBSTRUCTION (R109, R121). -/
def obstructionReleaseNotice (s : State) : State := s.setDrive { s.drive with obstructionKill := false }

/-- A lockout notice naming its cause (R110). -/
def lockoutNotice (cause : LockoutCause) (s : State) : State :=
  match cause with
  | .none => s
  | .config => s.setDrive (s.drive.force .brakeHold)
  | .holdOverrun => s.setDrive s.drive.kill

/-! ### The drive step -/

/-- The speed an edge count over 20 ms stands for, before its limit (R102). -/
def speedOf (edges eS : Nat) : Nat := edges * eS / 20

/-- Stage 1: V_meas from the edge count, limited to 1,023, and the count set to 0 (R102). -/
def DriveUnit.measure (d : DriveUnit) (eS : Nat) : DriveUnit :=
  { d with vMeas := min (speedOf d.edgeCount eS) 1023, edgeCount := 0 }

/-- Stage 4: the integral term (R103). -/
def nextIntegral (c : WorkingConfig) (vRef vMeas : Nat) (applied integral : Int) : Int :=
  let inc := truncDiv (((vRef : Int) - vMeas) * c.kI) 16
  if vRef = 0 ∧ vMeas = 0 then 0
  else if (0 < inc ∧ applied = 1023) ∨ (inc < 0 ∧ applied = -1023) then integral
  else clampInt (-65535) 65535 (integral + inc)

/-- The segment of a position (R16). -/
def segmentOf (p : Nat) : Nat := p / 512

/-- An entry of the segment table. -/
def WorkingConfig.segment (c : WorkingConfig) (i : Nat) : SegmentEntry := c.segments.getD i { gradeBias := 0, capCode := 0 }

/-- The grade bias lookup (R16). -/
def State.gradeBias (s : State) : Int :=
  if s.cfg.gradeBiasOn then
    match s.road.direction with
    | .up => (s.cfg.segment (segmentOf s.front)).gradeBias
    | .down => -(s.cfg.segment (segmentOf s.front)).gradeBias
  else 0

/-- The grade term of the duty (R104). -/
def State.gradeTerm (s : State) : Int := if 0 < s.spacing.vRef then s.gradeBias else 0

/-- The duty D (R105). -/
def dutyOf (c : WorkingConfig) (vRef vMeas : Nat) (integral grade : Int) : Int :=
  clampInt (-1023) 1023
    ((vRef * c.kFf / 256 : Nat) + truncDiv (((vRef : Int) - vMeas) * c.kP) 64 + truncDiv integral 256 + grade)

/-- Stage 6: the output state (R106). -/
def outputOf (d : Int) (vRef vMeas : Nat) : BridgeOutput :=
  if 0 < d then { state := .drive, duty := d }
  else if d < 0 then { state := .brake, duty := d }
  else if vRef = 0 ∧ vMeas = 0 then .brakeHold
  else .coast

/-- The kill path is active, or the mode is LOCKOUT (R101 stage 3, R109, R110). -/
def State.killActive (s : State) : Bool :=
  s.spacing.closeIn || s.drive.obstructionKill || decide (s.mode = .lockout)

/-- Stages 4 to 7 on a measured Drive Unit (R103 to R107). -/
def speedLoop (s : State) : DriveUnit :=
  let d := s.drive
  let integral := nextIntegral s.cfg s.spacing.vRef d.vMeas d.applied.duty d.integral
  let duty := dutyOf s.cfg s.spacing.vRef d.vMeas integral s.gradeTerm
  { d with integral := integral, buffer := outputOf duty s.spacing.vRef d.vMeas, updatePending := true }

/-- The overspeed counter at stage 1 (R102, R113). -/
def countOverspeed (s : State) : State :=
  if 1023 < speedOf s.drive.edgeCount s.cfg.eS then s.setCounters { s.counters with overspeed := bump s.counters.overspeed }
  else s

/-- One drive step (R101). -/
def driveStep (s : State) : State :=
  let s1 := (countOverspeed s).setDrive (s.drive.measure s.cfg.eS)
  if s1.killActive then s1.setDrive s1.drive.kill else s1.setDrive (speedLoop s1)

/-- A PWM period end: a pending output is applied (R107). -/
def pwmPeriodEnd (s : State) : State :=
  if s.drive.updatePending then s.setDrive { s.drive with applied := s.drive.buffer, updatePending := false } else s

/-- An encoder edge as the Drive Unit counts it, while its step timer runs (R102). -/
def DriveUnit.countEdge (d : DriveUnit) : DriveUnit :=
  if d.stepTimer.isSome then { d with edgeCount := bump d.edgeCount } else d

end Sys2Proof.Machine
end

