-- ==== Sys2Proof/Machine/Hold.lean ====
section
/-!
DEFINITION. The Hold Stack (chapter 7): push, revival, release, pop, overrun and lockout.
-/

namespace Sys2Proof.Machine

/-- Entry into LOCKOUT with a cause: the mode becomes LOCKOUT at once and the Drive Unit gets a lockout notice. The stack
stays as it stands (R127). -/
def enterLockout (cause : LockoutCause) (s : State) : State :=
  noteModeChange s.mode (lockoutNotice cause (s.setHolds { s.holds with lockout := cause }))

/-- A revived record (R118). -/
def HoldRecord.revived (r : HoldRecord) (now : Time) (lost : Option Nat) : HoldRecord :=
  { r with released := false, pushedAt := now, lostId := if r.cause = .linkLoss then lost else r.lostId }

/-- The stack with the record of a cause revived in its place (R118). -/
def reviveIn (stack : List HoldRecord) (cause : HoldCause) (now : Time) (lost : Option Nat) : List HoldRecord :=
  stack.map (fun r => if r.cause = cause then r.revived now lost else r)

/-- The record a push of a new cause places (R119). -/
def newHold (cause : HoldCause) (lost : Option Nat) (s : State) : HoldRecord :=
  { cause, pushedAt := s.time, modeBefore := s.mode, vRefAtPush := s.spacing.vRef, released := false,
    lostId := if cause = .linkLoss then lost else none }

/-- Neither a push nor a release has any effect (R118, R121). -/
def State.stackClosed (s : State) : Bool := decide (s.mode = .start) || decide (s.mode = .lockout)

/-- A push of this cause is a hold overrun (R120). -/
def State.pushOverruns (s : State) (cause : HoldCause) : Bool :=
  !s.stackClosed && !s.holds.has cause && decide (4 ≤ s.holds.stack.length)

/-- A push request; `lost` is the lost id a push of LINK_LOSS names (R118, R119, R120). -/
def pushHold (cause : HoldCause) (lost : Option Nat) (s : State) : State :=
  if s.stackClosed then s
  else if s.holds.has cause then
    noteModeChange s.mode (s.setHolds { s.holds with stack := reviveIn s.holds.stack cause s.time lost })
  else if s.holds.stack.length < 4 then
    noteModeChange s.mode (s.setHolds { s.holds with stack := newHold cause lost s :: s.holds.stack })
  else enterLockout .holdOverrun s

/-- The stack with the record of a cause marked released (R121). -/
def markReleased (stack : List HoldRecord) (cause : HoldCause) : List HoldRecord :=
  stack.map (fun r => if r.cause = cause then { r with released := true } else r)

/-- The pop cascade: released top records are removed (R122). -/
def popCascade (stack : List HoldRecord) : List HoldRecord := stack.dropWhile (fun r => r.released)

/-- The bottom record of a stack was placed in mode PARKED (R123). -/
def bottomPlacedParked (stack : List HoldRecord) : Bool :=
  match stack.getLast? with
  | none => false
  | some r => decide (r.modeBefore = .parked)

/-- The park-return notice, given when a cascade has emptied a stack whose bottom record was placed in PARKED (R123). -/
def parkReturn (before : List HoldRecord) (s : State) : State :=
  if s.holds.stack = [] ∧ bottomPlacedParked before = true then s.setSpacing (s.spacing.parkedAs s.ownId) else s

/-- The release notice the Drive Unit gets for OBSTRUCTION alone (R121). -/
def releaseNotice (cause : HoldCause) (s : State) : State :=
  if cause = .obstruction then obstructionReleaseNotice s else s

/-- A release request (R121, R122, R123). -/
def releaseHold (cause : HoldCause) (s : State) : State :=
  if s.stackClosed || !s.holds.unreleased cause then s
  else
    let marked := markReleased s.holds.stack cause
    noteModeChange s.mode
      (parkReturn s.holds.stack (releaseNotice cause (s.setHolds { s.holds with stack := popCascade marked })))

end Sys2Proof.Machine
end

