-- ==== Sys2Proof/Machine/Narrow.lean ====
section
/-!
DEFINITION. The Narrow Unit (chapter 8): geometry, relations and their companions, the control step, ask rounds, arrivals
and the answer queue.
-/

namespace Sys2Proof.Machine

/-! ### Geometry (R133) -/

/-- Distance from a front to a narrow's entry in a direction of travel. -/
def entryDistance (e : NarrowEntry) (d : Direction) (front : Int) : Int :=
  match d with
  | .up => e.lo - front
  | .down => front - e.hi

/-- *ahead*: distance to entry from 0 to D_claim inclusive. -/
def isAhead (c : WorkingConfig) (e : NarrowEntry) (d : Direction) (front : Int) : Bool :=
  decide (0 ≤ entryDistance e d front) && decide (entryDistance e d front ≤ c.dClaim)

/-- *inside*: the front has crossed the entry and the rear has not reached the exit. -/
def isInside (e : NarrowEntry) (d : Direction) (front rear : Int) : Bool :=
  match d with
  | .up => decide ((e.lo : Int) < front) && decide (rear < e.hi)
  | .down => decide (front < (e.hi : Int)) && decide ((e.lo : Int) < rear)

/-- *left*: the rear has reached the exit. -/
def hasLeft (e : NarrowEntry) (d : Direction) (rear : Int) : Bool :=
  match d with
  | .up => decide ((e.hi : Int) ≤ rear)
  | .down => decide (rear ≤ (e.lo : Int))

/-- *far back*: distance to entry above D_claim + 500. -/
def isFarBack (c : WorkingConfig) (e : NarrowEntry) (d : Direction) (front : Int) : Bool :=
  decide ((c.dClaim : Int) + 500 < entryDistance e d front)

/-- The stop line of a narrow for a direction of travel. -/
def stopLine (c : WorkingConfig) (e : NarrowEntry) (d : Direction) : Int :=
  match d with
  | .up => (e.lo : Int) - c.dStop
  | .down => (e.hi : Int) + c.dStop

/-- *past the stop line*. -/
def isPastStopLine (c : WorkingConfig) (e : NarrowEntry) (d : Direction) (front : Int) : Bool :=
  match d with
  | .up => decide (stopLine c e d < front)
  | .down => decide (front < stopLine c e d)

/-- The narrow of an index when it is configured and enabled (R132). -/
def WorkingConfig.enabledNarrow (c : WorkingConfig) (i : Nat) : Option NarrowEntry :=
  (c.narrows[i]?).filter (fun e => e.disabled.isNone)

/-- The indices of the configured narrows. -/
def WorkingConfig.narrowIndices (c : WorkingConfig) : List Nat := List.range c.narrows.length

/-- The index of the narrow ahead: the checks of R132 leave one at most (R91, R133). -/
def State.narrowAhead (s : State) : Option Nat :=
  s.cfg.narrowIndices.find? fun i =>
    match s.cfg.enabledNarrow i with
    | none => false
    | some e => isAhead s.cfg e s.road.direction s.front

/-! ### Records -/

/-- A narrow record with no relation (R154). -/
def NarrowRecord.idle : NarrowRecord :=
  { relation := .none, phase := none, asksSent := 0, ask := .none, windowEnd := none, waitAge := 0, inherited := false,
    conflictSeen := false }

/-- The record of a narrow. -/
def NarrowUnit.record (n : NarrowUnit) (i : Nat) : NarrowRecord := n.records.getD i .idle

/-- The record of a narrow, as the station's readers see it. -/
def State.narrowRecord (s : State) (i : Nat) : NarrowRecord := s.narrow.record i

/-- The record of a narrow written. -/
def State.setNarrowRecord (s : State) (i : Nat) (r : NarrowRecord) : State :=
  s.setNarrow { s.narrow with records := s.narrow.records.set i r }

/-- A round runs while the relation is ASKING, or WAITING in phase CONTESTING (section 8.5). -/
def NarrowRecord.inRound (r : NarrowRecord) : Bool :=
  decide (r.relation = .asking) || (decide (r.relation = .waiting) && decide (r.phase = some .contesting))

/-- Priority (R135): the larger wait age, and on equal wait age the lower id, has the higher priority. -/
def higherPriority (age id age' id' : Nat) : Bool := decide (age' < age) || (decide (age = age') && decide (id < id'))

/-- A round ended for a reason other than its window end (R142, R148). -/
def NarrowRecord.roundEnded (r : NarrowRecord) : NarrowRecord := { r with ask := .none, windowEnd := none }

/-- A round started: asks sent 0 and the first ask scheduled at once (R140, R141). -/
def NarrowRecord.roundStarted (r : NarrowRecord) (now : Time) : NarrowRecord :=
  { r with asksSent := 0, ask := .scheduled { start := now, period := 0 }, windowEnd := none }

/-! ### Relation changes with their companions (R148) -/

/-- Beacon now for a change into or out of HOLDING, or into ASKING (R148). -/
def beaconNowIf (b : Bool) (s : State) : State := if b then requestBeaconNow s else s

/-- The release of NARROW_WAIT for a change out of WAITING (R148). -/
def releaseWaitIf (b : Bool) (s : State) : State := if b then releaseHold .narrowWait s else s

/-- The record of a change into WAITING, phase DEFERRED. Its wait age goes on from the value held: 0 from NONE and
ASKING, the frozen value from HOLDING (R148, R149). -/
def NarrowRecord.toWaiting (r : NarrowRecord) : NarrowRecord :=
  { r with relation := .waiting, phase := some .deferred, ask := .none, windowEnd := none, inherited := false,
           conflictSeen := false }

/-- A change into WAITING, phase DEFERRED. It is one event with its push of NARROW_WAIT: where the push is a hold
overrun, the station locks out and the relation stays (R120, R148). -/
def enterWaiting (i : Nat) (s : State) : State :=
  if s.pushOverruns .narrowWait then pushHold .narrowWait none s
  else
    let r := s.narrowRecord i
    let s1 := pushHold .narrowWait none (s.setNarrowRecord i r.toWaiting)
    beaconNowIf (decide (r.relation = .holding)) (s1.setNarrow { s1.narrow with waitAgeTimer := some s.time })

/-- The record of a change into HOLDING; the wait age freezes (R143, R149). -/
def NarrowRecord.toHolding (r : NarrowRecord) (inherited : Bool) : NarrowRecord :=
  { r with relation := .holding, phase := none, ask := .none, windowEnd := none, inherited := inherited,
           conflictSeen := false }

/-- A change into HOLDING (R148). -/
def enterHolding (i : Nat) (inherited : Bool) (s : State) : State :=
  let r := s.narrowRecord i
  requestBeaconNow
    (releaseWaitIf (decide (r.relation = .waiting)) (s.setNarrowRecord i (r.toHolding inherited)))

/-- The record of a change into ASKING (R140, R148). -/
def NarrowRecord.toAsking (r : NarrowRecord) (now : Time) : NarrowRecord :=
  { r.roundStarted now with relation := .asking, phase := none, waitAge := 0 }

/-- A change into ASKING (R148). -/
def enterAsking (i : Nat) (s : State) : State :=
  requestBeaconNow (s.setNarrowRecord i ((s.narrowRecord i).toAsking s.time))

/-- The record of a change into NONE (R148). -/
def NarrowRecord.toNone (r : NarrowRecord) : NarrowRecord :=
  { r with relation := .none, phase := none, ask := .none, windowEnd := none, waitAge := 0, inherited := false,
           conflictSeen := false }

/-- A change into NONE (R148). -/
def dropRelation (i : Nat) (s : State) : State :=
  let r := s.narrowRecord i
  if r.relation = .none then s
  else
    beaconNowIf (decide (r.relation = .holding))
      (releaseWaitIf (decide (r.relation = .waiting)) (s.setNarrowRecord i r.toNone))

/-- The phase of a WAITING relation goes to DEFERRED and the round ends (R141, R144, R145). -/
def deferPhase (i : Nat) (s : State) : State :=
  s.setNarrowRecord i { (s.narrowRecord i).roundEnded with phase := some .deferred }

/-- The phase of a WAITING relation goes to CONTESTING and a round starts (R141). -/
def contestPhase (i : Nat) (s : State) : State :=
  s.setNarrowRecord i { (s.narrowRecord i).roundStarted s.time with phase := some .contesting }

/-! ### Peer records as the Narrow Unit reads them -/

/-- The age of a record (R49). -/
def PeerRecord.age (r : PeerRecord) (now : Time) : Nat := elapsed now r.stamp

/-- A record is FRESH while its age is at most three of its sender's periods (R49). -/
def PeerRecord.fresh (r : PeerRecord) (now : Time) : Bool := decide (r.age now ≤ 3 * r.period)

/-- The relation a record shows with a narrow (R48). -/
def PeerRecord.relationWith (r : PeerRecord) (i : Nat) : Relation :=
  match r.narrowPart with
  | none => .none
  | some p => if p.index = i then p.relation else .none

/-- The wait age of a record's narrow part. -/
def PeerRecord.narrowAge (r : PeerRecord) : Nat :=
  match r.narrowPart with
  | none => 0
  | some p => p.waitAge

/-- The FRESH records of the reading that run opposite to own direction (R140, R141). -/
def State.opposing (s : State) : List PeerRecord :=
  s.peers.records.filter fun r => r.fresh s.time && decide (r.direction = s.road.direction.opposite)

/-- An opposing record shows this relation with the narrow. -/
def State.opposingShows (s : State) (i : Nat) (rel : Relation) : Bool :=
  s.opposing.any fun r => decide (r.relationWith i = rel)

/-- An opposing record shows WAITING with a higher priority than own (R141). -/
def State.opposingWaitsHigher (s : State) (i : Nat) : Bool :=
  s.opposing.any fun r =>
    decide (r.relationWith i = .waiting) && higherPriority r.narrowAge r.id (s.narrowRecord i).waitAge s.ownId

/-! ### The control step (R136) -/

/-- Stage 3 for one narrow (R137). -/
def dropStage (turned : Bool) (i : Nat) (s : State) : State :=
  match s.cfg.narrows[i]? with
  | none => s
  | some e =>
    if turned || hasLeft e s.road.direction s.rear || isFarBack s.cfg e s.road.direction s.front then dropRelation i s
    else s

/-- Every relation with a narrow other than this one dropped (R138). -/
def dropOthers (i : Nat) (s : State) : State :=
  (s.cfg.narrowIndices.filter (fun j => decide (j ≠ i))).foldl (fun s j => dropRelation j s) s

/-- Stage 4 for one narrow: unclaimed entry (R138). -/
def unclaimedEntryStage (i : Nat) (s : State) : State :=
  match s.cfg.enabledNarrow i with
  | none => s
  | some e =>
    if isInside e s.road.direction s.front s.rear = true ∧ (s.narrowRecord i).relation ≠ .holding then
      let s1 := enterHolding i false (dropOthers i s)
      s1.setCounters { s1.counters with unclaimedEntry := bump s1.counters.unclaimedEntry }
    else s

/-- The rig ahead passes its claim on the narrow to this station (R139). -/
def State.inheritsFrom (s : State) (i : Nat) (r : PeerRecord) : Bool :=
  r.fresh s.time && decide (r.direction = s.road.direction) && decide (r.convoyId = s.spacing.convoyId) &&
    decide (r.relationWith i = .holding)

/-- The record of the Spacing Unit's predecessor in the table (R139, R166). -/
def State.predecessorRecord (s : State) : Option PeerRecord :=
  match s.spacing.predecessor with
  | none => none
  | some p => s.peers.records.find? (fun r => decide (r.id = p.id))

/-- Stage 5: inheritance (R139). `rd` is the station at the reading of stage 2: the role, convoy id and predecessor are
those of the reading, the relation is as the earlier stages left it. -/
def inheritStage (rd : State) (s : State) : State :=
  match rd.narrowAhead, rd.predecessorRecord with
  | some i, some r =>
    let rel := (s.narrowRecord i).relation
    if (rel = .none ∨ rel = .asking) ∧ rd.spacing.role = .follow ∧ rd.inheritsFrom i r = true then enterHolding i true s
    else s
  | _, _ => s

/-- Stage 6: claim start (R140), by the mode, quality and peer records of the reading of stage 2. -/
def claimStage (rd : State) (s : State) : State :=
  match rd.narrowAhead with
  | none => s
  | some i =>
    if (s.narrowRecord i).relation = .none ∧ rd.mode ≠ .parked ∧ rd.mode ≠ .lockout ∧ rd.road.quality ≠ .unknown then
      if rd.opposingShows i .holding || rd.opposingShows i .waiting then enterWaiting i s else enterAsking i s
    else s

/-- Stage 7 for one narrow: the phase test (R141). -/
def phaseStage (i : Nat) (s : State) : State :=
  let r := s.narrowRecord i
  if s.mode = .lockout then s
  else
    match r.relation, r.phase with
    | .waiting, some .deferred =>
      if s.opposingShows i .holding || s.opposingShows i .asking || s.opposingWaitsHigher i then s else contestPhase i s
    | .waiting, some .contesting =>
      if s.opposingShows i .holding || s.opposingWaitsHigher i then deferPhase i s else s
    | .asking, _ => if s.opposingShows i .holding then enterWaiting i s else s
    | _, _ => s

/-- Something done for each configured narrow, in index order. -/
def eachNarrow (f : Nat → State → State) (s : State) : State := s.cfg.narrowIndices.foldl (fun s i => f i s) s

/-- One step of the Narrow Unit (R136). In LOCKOUT it takes the turn-pending flag and does nothing else (R152; an overrun
within the step: DEDUCED, log entry 28). -/
def narrowStep (s : State) : State :=
  let rd := s.setRoad { s.road with turnNarrow := false }
  if rd.mode = .lockout then rd
  else
    eachNarrow phaseStage
      (claimStage rd
        (inheritStage rd (eachNarrow unclaimedEntryStage (eachNarrow (dropStage s.road.turnNarrow) rd))))

/-! ### Ask rounds (section 8.5) -/

/-- The first configured narrow whose record meets a test. -/
def State.findNarrow (s : State) (p : NarrowRecord → Bool) : Option Nat := s.narrow.records.findIdx? p

/-- The record has a scheduled ask whose time is reached (R142). -/
def NarrowRecord.askTimeReached (r : NarrowRecord) (now : Time) : Bool :=
  match r.ask with
  | .scheduled t => t.expired now
  | _ => false

/-- A scheduled ask becomes outstanding (R142). -/
def askDue (i : Nat) (s : State) : State :=
  s.setNarrowRecord i { s.narrowRecord i with ask := .outstanding false }

/-- The record's ask is outstanding and not yet granted (R35). -/
def NarrowRecord.askWaits (r : NarrowRecord) : Bool := decide (r.ask = .outstanding false)

/-- The record's ask is outstanding and granted (R42). -/
def NarrowRecord.askGranted (r : NarrowRecord) : Bool := decide (r.ask = .outstanding true) && r.inRound

/-- An ask scheduled for the ask interval and a draw mod 32 from now (R142). -/
def scheduleAsk (i : Nat) (r : NarrowRecord) (s : State) : State :=
  s.afterDraw.setNarrowRecord i
    { r with ask := .scheduled { start := s.time, period := s.cfg.askInterval + s.drawValue % 32 } }

/-- The Air Port reports an ask handed (R142). The report of an ask that no round waits for is ignored, and so is every
report in LOCKOUT (R152). -/
def askHandedReport (s : State) : State :=
  match s.findNarrow NarrowRecord.askGranted with
  | none => s
  | some i =>
    if s.mode = .lockout then s
    else
      let r := s.narrowRecord i
      let sent := r.asksSent + 1
      if sent < s.cfg.nAsk then scheduleAsk i { r with asksSent := sent } s
      else
        s.setNarrowRecord i
          { r with asksSent := sent, ask := .none, windowEnd := some { start := s.time, period := s.cfg.wAns } }

/-- The Air Port reports an ask dropped after busy attempts (R142, R152). -/
def askDroppedReport (s : State) : State :=
  match s.findNarrow NarrowRecord.askGranted with
  | none => s
  | some i => if s.mode = .lockout then s else scheduleAsk i (s.narrowRecord i) s

/-- The record's window end is reached in a round (R143). -/
def NarrowRecord.windowReached (r : NarrowRecord) (now : Time) : Bool :=
  match r.windowEnd with
  | none => false
  | some t => r.inRound && t.expired now

/-- The wait ages at an expiry of the wait-age timer (R149). -/
def waitAgeExpiry (s : State) : State :=
  let timer := s.narrow.waitAgeTimer.again 100
  if s.mode = .lockout then s.setNarrow { s.narrow with waitAgeTimer := timer }
  else
    s.setNarrow
      { s.narrow with
        waitAgeTimer := timer
        records := s.narrow.records.map fun r =>
          if r.relation = .waiting then { r with waitAge := min (r.waitAge + 1) 255 } else r }

/-! ### The answer queue (section 8.8) -/

/-- The answer queue with an answer queued: merged, added, or unchanged when it is full (R150). -/
def queueAnswer (q : List AnswerEntry) (e : AnswerEntry) : List AnswerEntry :=
  if q.any (fun x => decide (x.askerId = e.askerId) && decide (x.narrow = e.narrow)) then
    q.map fun x =>
      if x.askerId = e.askerId ∧ x.narrow = e.narrow then
        { x with askerDirection := e.askerDirection, askerWaitAge := e.askerWaitAge }
      else x
  else if q.length < 4 then q ++ [e]
  else q

/-- A new answer finds the queue full (R150). -/
def answerOverflows (q : List AnswerEntry) (e : AnswerEntry) : Bool :=
  !q.any (fun x => decide (x.askerId = e.askerId) && decide (x.narrow = e.narrow)) && decide (4 ≤ q.length)

/-- An answer to be queued (R150). -/
def takeAnswer (e : AnswerEntry) (s : State) : State :=
  let s1 := s.setNarrow { s.narrow with queue := queueAnswer s.narrow.queue e }
  if answerOverflows s.narrow.queue e then
    s1.setCounters { s1.counters with answerDropped := bump s1.counters.answerDropped }
  else s1

/-- An entry that is not in hand and was queued W_ans ago or more (R151). -/
def AnswerEntry.expired (e : AnswerEntry) (now : Time) (wAns : Nat) : Bool :=
  !e.inHand && decide (wAns ≤ elapsed now e.queuedAt)

/-- The queue without its oldest expired entry (R151). -/
def expireAnswer (s : State) : State :=
  let s1 := s.setNarrow { s.narrow with queue := s.narrow.queue.eraseP (fun e => e.expired s.time s.cfg.wAns) }
  s1.setCounters { s1.counters with answerExpired := bump s1.counters.answerExpired }

/-- The reason for an answer still holds (R151). -/
def State.answerStands (s : State) (e : AnswerEntry) : Bool :=
  let r := s.narrowRecord e.narrow
  decide (s.road.direction = e.askerDirection.opposite) &&
    (decide (r.relation = .holding) ||
      ((decide (r.relation = .asking) || decide (r.relation = .waiting)) &&
        higherPriority r.waitAge s.ownId e.askerWaitAge e.askerId))

/-! ### Arrivals (section 8.6) -/

/-- An ASK as it reaches the Narrow Unit (R29). -/
structure AskFrame where
  sender : Nat
  direction : Direction
  narrow : Nat
  waitAge : Nat
  deriving DecidableEq, Repr

/-- An OBJECT as it reaches the Narrow Unit (R29). -/
structure ObjectFrame where
  sender : Nat
  direction : Direction
  target : Nat
  narrow : Nat
  relation : Relation
  waitAge : Nat
  deriving DecidableEq, Repr

/-- The entry an ASK is answered with. Its time queued, "the time of the arrival" in R150, is the station time at which the
ASK reaches the Narrow Unit (DEDUCED, log entry 40). -/
def answerTo (f : AskFrame) (now : Time) : AnswerEntry :=
  { askerId := f.sender, askerDirection := f.direction, askerWaitAge := f.waitAge, narrow := f.narrow, queuedAt := now,
    inHand := false }

/-- An ASK from an opposite-direction sender for an enabled narrow (R144). In LOCKOUT only the outcomes that queue an
answer apply (R152). The frame comes with its arrival stamp (R29); no rule of the Narrow Unit uses it (log entry 40). -/
def askArrival (f : AskFrame) (_stamp : Time) (s : State) : State :=
  let r := s.narrowRecord f.narrow
  let ownHigher := higherPriority r.waitAge s.ownId f.waitAge f.sender
  if f.direction ≠ s.road.direction.opposite ∨ (s.cfg.enabledNarrow f.narrow).isNone = true then s
  else
    match r.relation with
    | .none => s
    | .holding => takeAnswer (answerTo f s.time) s
    | .asking =>
      if ownHigher then takeAnswer (answerTo f s.time) s
      else if s.mode = .lockout then s
      else enterWaiting f.narrow s
    | .waiting =>
      if ownHigher then takeAnswer (answerTo f s.time) s
      else if s.mode = .lockout then s
      else if r.phase = some .contesting then deferPhase f.narrow s
      else s

/-- Own front is past the stop line of a narrow (R133). -/
def State.pastStopLine (s : State) (e : NarrowEntry) : Bool := isPastStopLine s.cfg e s.road.direction s.front

/-- The late objection counter (R146). -/
def countLateObjection (s : State) : State :=
  s.setCounters { s.counters with lateObjection := bump s.counters.lateObjection }

/-- A late objection (R146). -/
def lateObjection (f : ObjectFrame) (e : NarrowEntry) (s : State) : State :=
  let r := s.narrowRecord f.narrow
  if r.inherited then countLateObjection s
  else if f.relation = .holding ∨ higherPriority f.waitAge f.sender r.waitAge s.ownId = true then
    if s.pastStopLine e then countLateObjection s else enterWaiting f.narrow s
  else s

/-- An OBJECT with own id as its target, from an opposite-direction sender, for an enabled narrow (R145, R146). In
LOCKOUT it changes no record (R152), and it counts no late objection either (DESIGN CHOICE, log entry 41). The frame comes
with its arrival stamp (R29); no rule of the Narrow Unit uses it (log entry 40). -/
def objectArrival (f : ObjectFrame) (_stamp : Time) (s : State) : State :=
  let r := s.narrowRecord f.narrow
  match s.cfg.enabledNarrow f.narrow with
  | none => s
  | some e =>
    if f.direction ≠ s.road.direction.opposite ∨ f.target ≠ s.ownId ∨ s.mode = .lockout then s
    else
      match r.relation with
      | .none => s
      | .asking => enterWaiting f.narrow s
      | .waiting => if r.phase = some .contesting then deferPhase f.narrow s else s
      | .holding => lateObjection f e s

/-- A narrow conflict counted once in each HOLDING (R147). -/
def noteConflict (i : Nat) (s : State) : State :=
  let r := s.narrowRecord i
  if r.conflictSeen then s
  else
    let s1 := s.setNarrowRecord i { r with conflictSeen := true }
    s1.setCounters { s1.counters with narrowConflict := bump s1.counters.narrowConflict }

/-- The double-holder test on a record write notice (R147). -/
def doubleHolderTest (p : PeerRecord) (s : State) : State :=
  match p.narrowPart with
  | none => s
  | some part =>
    match s.cfg.enabledNarrow part.index with
    | none => s
    | some e =>
      let r := s.narrowRecord part.index
      if p.direction ≠ s.road.direction.opposite ∨ part.relation ≠ .holding ∨ r.relation ≠ .holding ∨ s.mode = .lockout
      then s
      else if !r.inherited && higherPriority part.waitAge p.id r.waitAge s.ownId && !s.pastStopLine e then
        enterWaiting part.index s
      else if s.pastStopLine e && isPastStopLine s.cfg e p.direction p.position then noteConflict part.index s
      else s

end Sys2Proof.Machine
end

