-- ==== Sys2Proof/Machine/Frames.lean ====
section
/-!
DEFINITION. The frames of the radio channel (section 2.2): their fields, their bytes, the CRC, and the checks of a received
frame (R27).
-/

namespace Sys2Proof.Machine

/-! ### The CRC (R24) -/

/-- One message bit taken into the remainder. -/
def crcBit (rem : Word16) (bit : Bool) : Word16 :=
  if rem.getLsbD 15 ^^ bit then (rem <<< 1) ^^^ 0x1021#16 else rem <<< 1

/-- One byte taken into the remainder, most significant bit first. -/
def crcByte (rem : Word16) (b : Byte) : Word16 :=
  [7, 6, 5, 4, 3, 2, 1, 0].foldl (fun r i => crcBit r (b.getLsbD i)) rem

/-- The CRC over a sequence of bytes. -/
def crc (bytes : List Byte) : Word16 := bytes.foldl crcByte 0xFFFF#16

/-- A number below 256 as a byte. -/
def byteOf (n : Nat) : Byte := BitVec.ofNat 8 n

/-- A field of two bytes, high byte first (R22). -/
def twoBytes (n : Nat) : List Byte := [byteOf (n / 256), byteOf (n % 256)]

/-- The number two bytes hold, high byte first (R22). -/
def ofTwoBytes (hi lo : Byte) : Nat := hi.toNat * 256 + lo.toNat

/-- A frame's bytes with the CRC placed in the last two (R24). -/
def withCrc (body : List Byte) : List Byte := body ++ twoBytes (crc body).toNat

/-- The CRC check of a received frame (R24). -/
def crcPasses (frame : List Byte) : Bool :=
  decide (frame.drop (frame.length - 2) = twoBytes (crc (frame.take (frame.length - 2))).toNat)

/-! ### Field codes (section 2.2) -/

def Direction.code : Direction → Nat
  | .up => 0
  | .down => 1

def Direction.ofCode (n : Nat) : Direction := if n = 0 then .up else .down

def Quality.code : Quality → Nat
  | .good => 0
  | .drift => 1
  | .poor => 2
  | .unknown => 3

def Quality.ofCode (n : Nat) : Quality := if n = 0 then .good else if n = 1 then .drift else if n = 2 then .poor else .unknown

/-- The beacon code of a mode (00_scope section 4). START has none: no beacon is sent in it, and the code 7 given here is
never sent (log entry 37). -/
def Mode.code : Mode → Nat
  | .parked => 0
  | .head => 1
  | .follow => 2
  | .wait => 3
  | .halt => 4
  | .lockout => 5
  | .start => 7

/-- The mode of a beacon code; 6 and 7 are reserved (R23). -/
def Mode.ofCode (n : Nat) : Option Mode :=
  if n = 0 then some .parked else if n = 1 then some .head else if n = 2 then some .follow else if n = 3 then some .wait
  else if n = 4 then some .halt else if n = 5 then some .lockout else none

def Relation.code : Relation → Nat
  | .none => 0
  | .asking => 1
  | .waiting => 2
  | .holding => 3

def Relation.ofCode (n : Nat) : Relation :=
  if n = 0 then .none else if n = 1 then .asking else if n = 2 then .waiting else .holding

def OrderCode.code : OrderCode → Nat
  | .none => 0
  | .stopAll => 1
  | .resumeAll => 2

/-- The order code of a beacon; 3 is reserved (R23). -/
def OrderCode.ofCode (n : Nat) : Option OrderCode :=
  if n = 0 then some .none else if n = 1 then some .stopAll else if n = 2 then some .resumeAll else Option.none

/-! ### The three kinds -/

/-- The fields of a BEACON (R22). The sender's period is in 10 ms units. -/
structure Beacon where
  first : Bool
  braking : Bool
  sender : Nat
  direction : Direction
  quality : Quality
  sequence : Byte
  lead : Nat
  front : Nat
  mode : Mode
  speed : Nat
  memberIndex : Nat
  rigLength : Nat
  convoyId : Nat
  narrow : Nat
  relation : Relation
  orderCode : OrderCode
  orderSeq : Nat
  waitAge : Nat
  orderHop : Nat
  period : Nat
  deriving DecidableEq, Repr

/-- An accepted frame (R29). -/
inductive Frame where
  | beacon (b : Beacon)
  | ask (a : AskFrame)
  | object (o : ObjectFrame)
  deriving DecidableEq, Repr

/-- The bytes of a BEACON (R22). -/
def beaconBytes (b : Beacon) : List Byte :=
  withCrc
    ([byteOf (1 * 16 + b.first.toNat * 8 + b.braking.toNat * 4),
      byteOf (b.sender * 8 + b.direction.code * 4 + b.quality.code),
      b.sequence,
      byteOf b.lead]
     ++ twoBytes b.front
     ++ twoBytes (b.mode.code * 8192 + b.speed)
     ++ twoBytes (b.memberIndex * 4096 + b.rigLength)
     ++ [byteOf (b.convoyId * 8 + b.narrow),
         byteOf (b.relation.code * 64 + b.orderCode.code * 16 + b.orderSeq),
         byteOf b.waitAge,
         byteOf (b.orderHop * 16),
         byteOf b.period])

/-- The bytes of an ASK (R22). -/
def askBytes (a : AskFrame) : List Byte :=
  withCrc [byteOf (2 * 16), byteOf (a.sender * 8 + a.direction.code * 4), byteOf a.narrow, byteOf a.waitAge]

/-- The bytes of an OBJECT (R22). -/
def objectBytes (o : ObjectFrame) : List Byte :=
  withCrc
    [byteOf (3 * 16), byteOf (o.sender * 8 + o.direction.code * 4), byteOf (o.target * 8 + o.narrow),
     byteOf (o.relation.code * 64), byteOf o.waitAge]

/-- The bytes of a frame. -/
def Frame.bytes : Frame → List Byte
  | .beacon b => beaconBytes b
  | .ask a => askBytes a
  | .object o => objectBytes o

/-! ### Reading a frame -/

/-- Byte `i` of a frame as a number. -/
def frameByte (f : List Byte) (i : Nat) : Nat := (f.getD i 0).toNat

/-- The two bytes at `i` of a frame as a number. -/
def frameWord (f : List Byte) (i : Nat) : Nat := ofTwoBytes (f.getD i 0) (f.getD (i + 1) 0)

/-- The kind code (R22). -/
def frameKind (f : List Byte) : Nat := frameByte f 0 / 16

/-- The sender id (R22). -/
def frameSender (f : List Byte) : Nat := frameByte f 1 / 8

/-- The sender's direction (R22). -/
def frameDirection (f : List Byte) : Direction := Direction.ofCode (frameByte f 1 / 4 % 2)

/-- The fields of a BEACON, or `none` for a reserved mode or order code. The period is limited as R23 states. -/
def readBeacon (f : List Byte) : Option Beacon :=
  match Mode.ofCode (frameWord f 6 / 8192), OrderCode.ofCode (frameByte f 11 / 16 % 4) with
  | some mode, some orderCode =>
    some
      { first := decide (frameByte f 0 / 8 % 2 = 1), braking := decide (frameByte f 0 / 4 % 2 = 1),
        sender := frameSender f, direction := frameDirection f, quality := Quality.ofCode (frameByte f 1 % 4),
        sequence := f.getD 2 0, lead := frameByte f 3, front := frameWord f 4, mode,
        speed := frameWord f 6 % 1024, memberIndex := frameWord f 8 / 4096, rigLength := frameWord f 8 % 4096,
        convoyId := frameByte f 10 / 8, narrow := frameByte f 10 % 8, relation := Relation.ofCode (frameByte f 11 / 64),
        orderCode, orderSeq := frameByte f 11 % 16, waitAge := frameByte f 12, orderHop := frameByte f 13 / 16,
        period := clampNat 10 200 (frameByte f 14) }
  | _, _ => none

/-- The fields of an ASK. -/
def readAsk (f : List Byte) : AskFrame :=
  { sender := frameSender f, direction := frameDirection f, narrow := frameByte f 2 % 8, waitAge := frameByte f 3 }

/-- The fields of an OBJECT, or `none` for objector relation 0. -/
def readObject (f : List Byte) : Option ObjectFrame :=
  if frameByte f 3 / 64 = 0 then none
  else
    some
      { sender := frameSender f, direction := frameDirection f, target := frameByte f 2 / 8, narrow := frameByte f 2 % 8,
        relation := Relation.ofCode (frameByte f 3 / 64), waitAge := frameByte f 4 }

/-- The fields of a frame of kind 1, 2 or 3, or `none` where check 4 of R27 finds a reserved value. -/
def readFrame (f : List Byte) : Option Frame :=
  if frameSender f = 0 ∨ frameSender f = 31 then none
  else if frameKind f = 1 then (readBeacon f).map .beacon
  else if frameKind f = 2 then some (.ask (readAsk f))
  else (readObject f).map .object

/-- The length check of R27, for a frame that R25 did not close as malformed. -/
def lengthPasses (f : List Byte) : Bool :=
  if f.length = 0 then false
  else if frameKind f = 1 then decide (f.length = 17)
  else if frameKind f = 2 then decide (f.length = 6)
  else if frameKind f = 3 then decide (f.length = 7)
  else decide (3 ≤ f.length)

/-- The kind check of R27. -/
def kindKnown (f : List Byte) : Bool := decide (frameKind f = 1) || decide (frameKind f = 2) || decide (frameKind f = 3)

/-- The fate of a completed frame (R27). -/
inductive FrameFate where
  | malformed
  | crcError
  | unknownKind
  | idClash
  | accepted (f : Frame)
  deriving DecidableEq, Repr

/-- The five checks in order (R27). -/
def checkFrame (ownId : Nat) (malformed : Bool) (f : List Byte) : FrameFate :=
  if malformed = true ∨ lengthPasses f = false then .malformed
  else if crcPasses f = false then .crcError
  else if kindKnown f = false then .unknownKind
  else
    match readFrame f with
    | none => .malformed
    | some frame => if frameSender f = ownId then .idClash else .accepted frame

end Sys2Proof.Machine
end

