-- ==== Sys2Proof/Machine/Orders.lean ====
section
/-!
DEFINITION. The Order Unit (chapter 9): issue, adoption and the join copy.
-/

namespace Sys2Proof.Machine

/-- Acting on an order code: STOP_ALL pushes CONVOY_STOP; RESUME_ALL releases CONVOY_STOP and LINK_LOSS (R164, R165). -/
def actOnOrder (code : OrderCode) (s : State) : State :=
  match code with
  | .none => s
  | .stopAll => pushHold .convoyStop none s
  | .resumeAll => releaseHold .linkLoss (releaseHold .convoyStop s)

/-- The order record of an issue (R164). -/
def OrderUnit.issued (o : OrderUnit) (code : OrderCode) (ownId : Nat) : OrderUnit :=
  { code, seq := (o.seq + 1) % 16, origin := ownId, hop := 0, lastIssued := code, unsynchronised := false }

/-- An issue may be made: role HEAD, mode neither START nor LOCKOUT (R164). -/
def State.mayIssue (s : State) : Bool := decide (s.spacing.role = .head) && !s.stackClosed

/-- An order issued and acted on at once (R164). -/
def issueOrder (code : OrderCode) (s : State) : State :=
  if s.mayIssue then actOnOrder code (s.setOrder (s.order.issued code s.ownId)) else s

/-- The order record as taken from a record's order part (R165, R166). -/
def OrderUnit.taken (o : OrderUnit) (part : OrderPart) (convoyId : Nat) : OrderUnit :=
  { o with code := part.code, seq := part.seq, hop := min (part.hop + 1) 15, origin := convoyId, unsynchronised := false }

/-- A written record is eligible for adoption but for its order part and the mode (R165). -/
def State.eligible (s : State) (p : PeerRecord) : Bool :=
  decide (p.direction = s.road.direction) && decide (p.convoyId = s.spacing.convoyId) &&
    decide (p.memberIndex < s.spacing.memberIndex)

/-- The record's order is newer than own (R165). -/
def newerOrder (theirs own : Nat) : Bool :=
  decide (1 ≤ (theirs + 16 - own % 16) % 16) && decide ((theirs + 16 - own % 16) % 16 ≤ 7)

/-- The Order Unit's test of a record write notice (R165). -/
def adoptionTest (p : PeerRecord) (s : State) : State :=
  match p.orderPart with
  | none => s
  | some part =>
    if s.eligible p = false ∨ s.mode = .lockout then s
    else if s.order.unsynchronised then s.setOrder (s.order.taken part p.convoyId)
    else if newerOrder part.seq s.order.seq then actOnOrder part.code (s.setOrder (s.order.taken part p.convoyId))
    else s

/-- A join notice naming a peer: its order part is copied without acting, or the station becomes unsynchronised
(R166). -/
def joinNotice (id : Nat) (s : State) : State :=
  if s.mode = .lockout then s
  else
    match s.peers.records.find? (fun r => decide (r.id = id)) with
    | none => s.setOrder { s.order with code := .none, unsynchronised := true }
    | some r =>
      match r.orderPart with
      | none => s.setOrder { s.order with code := .none, unsynchronised := true }
      | some part => s.setOrder (s.order.taken part r.convoyId)

end Sys2Proof.Machine
end

