-- ==== Sys2Proof/Machine/PeerTable.lean ====
section
/-!
DEFINITION. The Peer Table (chapter 3): beacon arrival, road order, the full table, the sweep and the record write notice.
-/

namespace Sys2Proof.Machine

/-- The record an accepted beacon writes (R47, R48). -/
def recordOf (b : Beacon) (stamp : Time) : PeerRecord :=
  { id := b.sender, lastSequence := b.sequence, stamp, lead := b.lead, position := b.front, direction := b.direction,
    quality := b.quality, speed := b.speed, braking := b.braking, rigLength := b.rigLength, mode := b.mode,
    convoyId := b.convoyId, memberIndex := b.memberIndex, period := 10 * b.period,
    narrowPart :=
      if b.relation = .none then none else some { index := b.narrow, relation := b.relation, waitAge := b.waitAge },
    orderPart :=
      if b.orderCode = .none then none else some { code := b.orderCode, seq := b.orderSeq, hop := b.orderHop },
    first := b.first }

/-- Road order: ascending position, ties in ascending id (R50). -/
def PeerRecord.before (a b : PeerRecord) : Bool :=
  decide (a.position < b.position) || (decide (a.position = b.position) && decide (a.id < b.id))

/-- A record placed in road order (R53). -/
def insertRecord (r : PeerRecord) : List PeerRecord → List PeerRecord
  | [] => [r]
  | x :: xs => if r.before x then r :: x :: xs else x :: insertRecord r xs

/-- The records without the one of an id. -/
def removeId (id : Nat) (rs : List PeerRecord) : List PeerRecord := rs.filter (fun r => decide (r.id ≠ id))

/-- The record of an id (R60). -/
def findId (id : Nat) (rs : List PeerRecord) : Option PeerRecord := rs.find? (fun r => decide (r.id = id))

/-- The sequence test (R51). -/
def beaconNewer (b : Beacon) (held : PeerRecord) : Bool :=
  b.first || (decide (1 ≤ (b.sequence - held.lastSequence).toNat) && decide ((b.sequence - held.lastSequence).toNat ≤ 127))

/-! ### The full table (section 3.5) -/

/-- Class 0 of R54: a rig just ahead in own direction. -/
def State.justAhead (s : State) (r : PeerRecord) : Bool :=
  decide (s.cfg.wAhead ≠ 0) && decide (s.road.quality ≠ .unknown) && decide (r.direction = s.road.direction) &&
    (match s.road.direction with
     | .up =>
       decide (s.front < r.position) && decide (rearOf .up r.position r.rigLength ≤ (s.front : Int) + s.cfg.wAhead)
     | .down =>
       decide (r.position < s.front) && decide ((s.front : Int) - s.cfg.wAhead ≤ rearOf .down r.position r.rigLength))

/-- The relevance class of a record that is not STALE (R54). -/
def State.freshClass (s : State) (r : PeerRecord) : Nat :=
  if s.justAhead r then 0
  else if r.narrowPart.isSome then 1
  else if r.direction = s.road.direction then 2
  else 3

/-- The relevance class of a held record (R54). -/
def State.relevance (s : State) (r : PeerRecord) : Nat := if r.fresh s.time then s.freshClass r else 4

/-- The distance the weighing uses (R55). -/
def State.weighDistance (s : State) (r : PeerRecord) : Nat :=
  if s.road.quality = .unknown then r.position else ((r.position : Int) - s.front).natAbs

/-- `a` is a weaker record than `b`: a better victim (R55). -/
def State.weaker (s : State) (a b : PeerRecord) : Bool :=
  decide (s.relevance b < s.relevance a) ||
    (decide (s.relevance a = s.relevance b) &&
      (decide (s.weighDistance b < s.weighDistance a) ||
        (decide (s.weighDistance a = s.weighDistance b) && decide (b.id < a.id))))

/-- The victim of a full table (R55). -/
def State.victim (s : State) : List PeerRecord → Option PeerRecord
  | [] => none
  | r :: rs =>
    match State.victim s rs with
    | none => some r
    | some v => if s.weaker r v then some r else some v

/-- The newcomer is dropped (R56). -/
def State.newcomerDropped (s : State) (new victim : PeerRecord) : Bool :=
  decide (s.relevance victim < s.freshClass new) ||
    (decide (s.freshClass new = s.relevance victim) && decide (s.weighDistance victim ≤ s.weighDistance new))

/-! ### The record write notice (R59) -/

/-- The Spacing Unit's share: a fresh beacon from the lost peer (R81). -/
def linkHeard (p : PeerRecord) (s : State) : State :=
  if s.spacing.lostId ≠ 0 ∧ p.id = s.spacing.lostId then
    releaseHold .linkLoss (s.setSpacing { s.spacing with lostId := 0 })
  else s

/-- A record write notice goes to the Spacing Unit, the Narrow Unit and the Order Unit. The book gives no order among the
three, and all three may act on the Hold Stack, so the order is a free choice (R59, R124, log entry 5). -/
def writeNotice (p : PeerRecord) (s : State) : State :=
  freeOrder
    [fun s => adoptionTest p (doubleHolderTest p (linkHeard p s)),
     fun s => doubleHolderTest p (adoptionTest p (linkHeard p s)),
     fun s => adoptionTest p (linkHeard p (doubleHolderTest p s)),
     fun s => linkHeard p (adoptionTest p (doubleHolderTest p s)),
     fun s => doubleHolderTest p (linkHeard p (adoptionTest p s)),
     fun s => linkHeard p (doubleHolderTest p (adoptionTest p s))] s

/-- The table with other records. -/
def State.setRecords (s : State) (rs : List PeerRecord) : State := s.setPeers { s.peers with records := rs }

/-- A record written into a table that does not hold its id, with its notice (R52, R53). -/
def writeRecord (p : PeerRecord) (rest : List PeerRecord) (s : State) : State :=
  writeNotice p (s.setRecords (insertRecord p rest))

/-- A beacon of an id the table does not hold meets a full table (R54, R55, R56). -/
def weighNewcomer (p : PeerRecord) (s : State) : State :=
  match s.victim s.peers.records with
  | none => s
  | some v =>
    if s.newcomerDropped p v then s.setCounters { s.counters with tableFull := bump s.counters.tableFull }
    else writeRecord p (removeId v.id s.peers.records) s

/-- Beacon arrival (section 3.4). -/
def beaconArrival (b : Beacon) (stamp : Time) (s : State) : State :=
  let p := recordOf b stamp
  match findId b.sender s.peers.records with
  | some held =>
    if beaconNewer b held then writeRecord p (removeId b.sender s.peers.records) s
    else s.setCounters { s.counters with oldSequence := bump s.counters.oldSequence }
  | none =>
    if s.peers.records.length < 16 then writeRecord p s.peers.records s
    else weighNewcomer p s

/-- One sweep (R57). -/
def sweep (s : State) : State :=
  s.setPeers
    { records := s.peers.records.filter (fun r => decide (r.age s.time ≤ 10 * r.period))
      sweepTimer := s.peers.sweepTimer + 100#24 }

end Sys2Proof.Machine
end

