-- ==== Sys2Proof/Machine/Air.lean ====
section
/-!
DEFINITION. The Air Port (chapter 2): the arbiter, carrier sense and backoff, building and sending, and reception.
-/

namespace Sys2Proof.Machine

/-- The transmitter written. -/
def State.setTransmitter (s : State) (t : Transmitter) : State := s.setAir { s.air with transmitter := t }

/-- The receiving side written. -/
def State.setReception (s : State) (r : Reception) : State := s.setAir { s.air with reception := r }

/-- A received frame is open (section 2.3). -/
def Reception.isOpen : Reception → Bool
  | .opened _ => true
  | .closed | .complete _ => false

/-- The channel is clear for this station: BUSY is clear and no received frame is open (R37). -/
def State.channelClear (s : State) : Bool := !s.air.busy && !s.air.reception.isOpen

/-! ### The arbiter (section 2.6) -/

/-- A class waits (R35). -/
def State.classWaits (s : State) : FrameClass → Bool
  | .object => s.narrow.queue.any (fun e => !e.inHand)
  | .ask => s.narrow.records.any NarrowRecord.askWaits && decide (s.mode ≠ .lockout)
  | .beacon => s.validConfig && (s.air.beaconDue || s.air.beaconNow)

/-- The first waiting class in the rotation (R36). -/
def State.nextClass (s : State) : Option FrameClass := s.air.rotation.find? s.classWaits

/-- The rotation with the granted class moved to its end (R36). -/
def rotate (rotation : List FrameClass) (c : FrameClass) : List FrameClass :=
  rotation.filter (fun x => decide (x ≠ c)) ++ [c]

/-- The oldest entry not in hand marked in hand (R36). -/
def takeInHand : List AnswerEntry → List AnswerEntry
  | [] => []
  | e :: es => if e.inHand then e :: takeInHand es else { e with inHand := true } :: es

/-- The outstanding ask granted (R36). -/
def grantAsk (records : List NarrowRecord) : List NarrowRecord :=
  records.map fun r => if r.askWaits then { r with ask := .outstanding true } else r

/-- What a grant to a class takes (R36). -/
def takeGrant (c : FrameClass) (s : State) : State :=
  match c with
  | .beacon => s.setAir { s.air with beaconNow := false, beaconDue := false }
  | .ask => s.setNarrow { s.narrow with records := grantAsk s.narrow.records }
  | .object => s.setNarrow { s.narrow with queue := takeInHand s.narrow.queue }

/-! ### Carrier sense and backoff (section 2.7) -/

/-- The start of the 500 ms measure on entering SENSE: running while BUSY is asserted (R38; DEDUCED, log entry 35). -/
def State.busyMeasure (s : State) : Option Time := if s.air.busy then some s.time else none

/-- In SENSE with the channel clear, a draw mod 8 gives the slot count and BACKOFF is entered for that many slots of
4 ms (R37). -/
def startBackoff (s : State) : State :=
  match s.air.transmitter with
  | .sense c attempts _ =>
    if s.channelClear then
      s.afterDraw.setTransmitter (.backoff c attempts { start := s.time, period := s.drawValue % 8 * 4 })
    else s
  | _ => s

/-- A grant: SENSE with no busy attempt yet, and BACKOFF at once on a clear channel (R36, R37). -/
def grant (c : FrameClass) (s : State) : State :=
  let s1 := takeGrant c (s.setAir { s.air with rotation := rotate s.air.rotation c })
  startBackoff (s1.setTransmitter (.sense c 0 s1.busyMeasure))

/-- The arbiter acts when the transmitter is idle and a class waits (R36). -/
def arbiterGrant (s : State) : State :=
  match s.air.transmitter, s.nextClass with
  | .idle, some c => grant c s
  | _, _ => s

/-- The in-hand entries back to waiting (R39). -/
def releaseInHand (q : List AnswerEntry) : List AnswerEntry := q.map fun e => { e with inHand := false }

/-- A frame dropped after busy attempts: the transmitter becomes IDLE and its class takes the outcome (R39). -/
def dropFrame (c : FrameClass) (s : State) : State :=
  let s1 := s.setTransmitter .idle
  match c with
  | .beacon =>
    scheduleBeacon s1.effectivePeriod (s1.setCounters { s1.counters with beaconDropped := bump s1.counters.beaconDropped })
  | .ask => askDroppedReport (s1.setCounters { s1.counters with askDropped := bump s1.counters.askDropped })
  | .object => s1.setNarrow { s1.narrow with queue := releaseInHand s1.narrow.queue }

/-- One more busy attempt: back to SENSE, or a drop at the eighth (R37, R38). -/
def busyAttempt (c : FrameClass) (attempts : Nat) (s : State) : State :=
  if attempts + 1 < 8 then s.setTransmitter (.sense c (attempts + 1) s.busyMeasure) else dropFrame c s

/-- An attempt lost to BUSY or to a SYNC during BACKOFF (R37). -/
def loseAttempt (s : State) : State :=
  match s.air.transmitter with
  | .backoff c attempts _ => busyAttempt c attempts s
  | _ => s

/-- BUSY asserted (R37, R38). -/
def busyAsserted (s : State) : State :=
  let s1 := s.setAir { s.air with busy := true }
  match s1.air.transmitter with
  | .sense c attempts _ => s1.setTransmitter (.sense c attempts (some s1.time))
  | _ => loseAttempt s1

/-- BUSY gone clear (R37, R38). -/
def busyCleared (s : State) : State :=
  let s1 := s.setAir { s.air with busy := false }
  match s1.air.transmitter with
  | .sense c attempts _ => startBackoff (s1.setTransmitter (.sense c attempts none))
  | _ => s1

/-- A change of the BUSY line; a level the line already has is no change (R37, log entry 32). -/
def busyChange (asserted : Bool) (s : State) : State :=
  if asserted = s.air.busy then s else if asserted then busyAsserted s else busyCleared s

/-- BUSY has been held for 500 ms in SENSE (R38). -/
def State.busyHeld (s : State) : Bool :=
  match s.air.transmitter with
  | .sense _ _ (some start) => decide (500 ≤ elapsed s.time start)
  | _ => false

/-- One busy attempt for a held BUSY line (R38). -/
def busyAttemptTimeout (s : State) : State :=
  match s.air.transmitter with
  | .sense c attempts _ => busyAttempt c attempts s
  | _ => s

/-! ### Building and sending (section 2.8) -/

/-- The step sample taken now (R40). -/
def State.sampleNow (s : State) : StepSample :=
  { front := s.front, direction := s.road.direction, quality := s.road.quality, speed := s.drive.vMeas,
    braking := s.spacing.braking, time := s.time }

/-- The Air Port takes a step sample (R40). -/
def takeSample (s : State) : State := s.setAir { s.air with sample := some s.sampleNow }

/-- The sample a beacon reports: the last one, or live position, direction and quality with speed 0 and BRAKING clear
while there is none (R40). -/
def State.reportSample (s : State) : StepSample :=
  match s.air.sample with
  | some p => p
  | none =>
    { front := s.front, direction := s.road.direction, quality := s.road.quality, speed := 0, braking := false,
      time := s.time }

/-- The sample lead at build (R40). -/
def State.sampleLead (s : State) : Nat := min (elapsed s.time s.reportSample.time) 255

/-- The narrow with which the station has a relation other than NONE (R41). -/
def State.relatedNarrow (s : State) : Option Nat := s.findNarrow (fun r => decide (r.relation ≠ .none))

/-- The beacon as built at this moment (R41). -/
def State.beaconNowBuilt (s : State) : Beacon :=
  let p := s.reportSample
  let narrow := s.relatedNarrow.getD 0
  let r := s.narrowRecord narrow
  { first := decide (0 < s.air.firstCount), braking := p.braking, sender := s.ownId, direction := p.direction,
    quality := p.quality, sequence := s.air.sequence, lead := s.sampleLead, front := p.front, mode := s.mode,
    speed := p.speed, memberIndex := s.spacing.memberIndex, rigLength := s.road.rigLength,
    convoyId := s.spacing.convoyId, narrow := narrow,
    relation := if s.relatedNarrow.isSome then r.relation else .none, orderCode := s.order.code,
    orderSeq := s.order.seq, waitAge := if s.relatedNarrow.isSome then r.waitAge else 0, orderHop := s.order.hop,
    period := s.effectivePeriod / 10 }

/-- The transmit frame as the module gets it: one count byte that gives the number of frame bytes, then the frame bytes
(R21). -/
def transmitFrame (frame : List Byte) : List Byte := byteOf frame.length :: frame

/-- SEND entered with a frame built: the count byte and the frame bytes go to the module (R37, R44). -/
def sendFrame (c : FrameClass) (frame : List Byte) (s : State) : State :=
  s.setTransmitter (.send c (transmitFrame frame) none)

/-- A beacon built and sent; the sequence and the FIRST count move on (R41). -/
def buildBeacon (s : State) : State :=
  sendFrame .beacon (beaconBytes s.beaconNowBuilt)
    (s.setAir { s.air with sequence := s.air.sequence + 1#8, firstCount := s.air.firstCount - 1 })

/-- The ask as built at this moment for a narrow (R42). -/
def State.askBuilt (s : State) (i : Nat) : AskFrame :=
  { sender := s.ownId, direction := s.road.direction, narrow := i, waitAge := (s.narrowRecord i).waitAge }

/-- An ask built and sent if it is still outstanding in a running round and the mode is not LOCKOUT, else discarded
unsent (R42). -/
def buildAsk (s : State) : State :=
  match s.findNarrow NarrowRecord.askGranted with
  | none => s.setTransmitter .idle
  | some i => if s.mode = .lockout then s.setTransmitter .idle else sendFrame .ask (askBytes (s.askBuilt i)) s

/-- The answer as built at this moment from its entry (R43, R151). -/
def State.objectBuilt (s : State) (e : AnswerEntry) : ObjectFrame :=
  { sender := s.ownId, direction := s.road.direction, target := e.askerId, narrow := e.narrow,
    relation := (s.narrowRecord e.narrow).relation, waitAge := (s.narrowRecord e.narrow).waitAge }

/-- The entry in hand taken out of the answer queue and sent, or withdrawn and counted when its reason no longer holds
(R43). -/
def buildAnswer (s : State) : State :=
  match s.narrow.queue.find? (fun e => e.inHand) with
  | none => s.setTransmitter .idle
  | some e =>
    let s1 := s.setNarrow { s.narrow with queue := s.narrow.queue.eraseP (fun e => e.inHand) }
    if s.answerStands e then sendFrame .object (objectBytes (s.objectBuilt e)) s1
    else
      (s1.setTransmitter .idle).setCounters { s1.counters with answerWithdrawn := bump s1.counters.answerWithdrawn }

/-- The frame of a class built at the moment sending starts (section 2.8). -/
def buildFrame (c : FrameClass) (s : State) : State :=
  match c with
  | .beacon => buildBeacon s
  | .ask => buildAsk s
  | .object => buildAnswer s

/-- BACKOFF has run to its end with the channel clear (R37). -/
def State.backoffOver (s : State) : Bool :=
  match s.air.transmitter with
  | .backoff _ _ slots => slots.expired s.time && s.channelClear
  | _ => false

/-- The end of BACKOFF (R37). -/
def backoffEnd (s : State) : State :=
  match s.air.transmitter with
  | .backoff c _ _ => buildFrame c s
  | _ => s

/-- The frame is handed to the radio: its last byte has passed to the module (R44). -/
def frameHanded (s : State) : State :=
  match s.air.transmitter with
  | .send c bytes none =>
    let s1 := s.setTransmitter (.send c bytes (some s.time))
    match c with
    | .beacon => scheduleBeacon s1.effectivePeriod s1
    | .ask => askHandedReport s1
    | .object => s1
  | _ => s

/-- A transmission awaits its report (R21, R44). -/
def State.awaitsReport (s : State) : Bool :=
  match s.air.transmitter with
  | .send _ _ (some _) => true
  | _ => false

/-- No report within 50 ms of the handing (R44). -/
def State.reportOverdue (s : State) : Bool :=
  match s.air.transmitter with
  | .send _ _ (some handed) => decide (50 ≤ elapsed s.time handed)
  | _ => false

/-- The radio timeout (R44). -/
def radioTimeout (s : State) : State :=
  (s.setTransmitter .idle).setCounters { s.counters with radioTimeout := bump s.counters.radioTimeout }

/-! ### Reception (section 2.3) -/

/-- A malformed frame counted (R45). -/
def countMalformed (s : State) : State := s.setCounters { s.counters with malformed := bump s.counters.malformed }

/-- An open frame abandoned by a second SYNC or after 20 ms is counted as malformed; in LOCKOUT with cause CONFIG the
station counts no received frames (R25, R26, R181, log entry 10). -/
def countAbandoned (s : State) : State := if s.mode = .lockout ∧ s.holds.lockout = .config then s else countMalformed s

/-- An accepted frame passed on with its arrival stamp (R29). -/
def passOn (f : Frame) (stamp : Time) (s : State) : State :=
  match f with
  | .beacon b => beaconArrival b stamp s
  | .ask a => askArrival a stamp s
  | .object o => objectArrival o stamp s

/-- A completed frame goes to its checks and is passed on, or is discarded and counted (R27, R28). -/
def judgeFrame (f : CompleteFrame) (s : State) : State :=
  match checkFrame s.ownId f.malformed f.buffer with
  | .malformed => countMalformed s
  | .crcError => s.setCounters { s.counters with crcError := bump s.counters.crcError }
  | .unknownKind => s.setCounters { s.counters with unknownKind := bump s.counters.unknownKind }
  | .idClash =>
    (s.setCounters { s.counters with idClash := bump s.counters.idClash }).setAir { s.air with clash := true }
  | .accepted frame => passOn frame f.stamp s

/-- The completed frame is closed, a transmitter in SENSE finds the channel clear, and the frame is judged. Without a
valid configuration it is discarded without checks or counting (R29). The order is DEDUCED (log entries 15 and 30). -/
def receiveFrame (s : State) : State :=
  match s.air.reception with
  | .complete f =>
    let s1 := startBackoff (s.setReception .closed)
    if s1.validConfig then judgeFrame f s1 else s1
  | _ => s

/-- A SYNC pulse (R25, R26). A completed frame still to be judged is judged first (DEDUCED, log entry 15). -/
def syncPulse (s : State) : State :=
  let s1 := receiveFrame s
  let s2 := if s1.air.reception.isOpen then countAbandoned s1 else s1
  loseAttempt (s2.setReception (.opened { stamp := s2.time, count := none, taken := 0, buffer := [] }))

/-- A byte taken into an open frame: the count byte, or a frame byte of which the first 32 are stored (R25). -/
def takeFrameByte (f : OpenFrame) (b : Byte) : Reception :=
  match f.count with
  | none =>
    if b.toNat = 0 then .complete { stamp := f.stamp, buffer := [], malformed := false }
    else .opened { f with count := some b.toNat }
  | some n =>
    let stored := if f.taken < 32 then f.buffer ++ [b] else f.buffer
    if f.taken + 1 < n then .opened { f with taken := f.taken + 1, buffer := stored }
    else .complete { stamp := f.stamp, buffer := stored, malformed := decide (32 < n) }

/-- A byte from the radio module: into the open frame, or, while none is open, a transmit report when it is 1 and a
transmission awaits one, and else discarded (R21, R25). -/
def moduleByte (b : Byte) (s : State) : State :=
  let s1 := receiveFrame s
  match s1.air.reception with
  | .opened f => s1.setReception (takeFrameByte f b)
  | _ => if b = 1#8 ∧ s1.awaitsReport = true then s1.setTransmitter .idle else s1

/-- The open frame has been open for 20 ms (R25). -/
def State.frameOverdue (s : State) : Bool :=
  match s.air.reception with
  | .opened f => decide (20 ≤ elapsed s.time f.stamp)
  | _ => false

/-- The open frame abandoned after 20 ms (R25). -/
def frameTimeout (s : State) : State := startBackoff (countAbandoned (s.setReception .closed))

/-- The beacon due time is reached (R32, R34). -/
def State.beaconTimeReached (s : State) : Bool :=
  match s.air.beaconTimer with
  | none => false
  | some t => s.validConfig && t.expired s.time

/-- A beacon becomes due (R32; DEDUCED, log entry 11). -/
def beaconDue (s : State) : State := s.setAir { s.air with beaconDue := true, beaconTimer := none }

end Sys2Proof.Machine
end

