-- ==== Sys2Proof/Machine/Spacing.lean ====
section
/-!
DEFINITION. The Spacing Unit (chapters 4 and 5): projection, predecessor, link loss, membership, and the speed reference.
-/

namespace Sys2Proof.Machine

/-! ### Projection and selection (sections 4.2 and 4.3) -/

/-- The projection time of a record (R68). -/
def projectionTime (c : WorkingConfig) (now : Time) (r : PeerRecord) : Nat := min (r.age now + r.lead) c.hLimit

/-- The projection distance of a record (R68). -/
def projectionDistance (c : WorkingConfig) (now : Time) (r : PeerRecord) : Nat :=
  if r.braking then 0 else r.speed * projectionTime c now r / 1000

/-- The projected front of a record, clamped to the road (R68). -/
def projectedFront (c : WorkingConfig) (now : Time) (r : PeerRecord) : Int :=
  clampInt 0 c.lRoad
    (match r.direction with
     | .up => (r.position : Int) + projectionDistance c now r
     | .down => (r.position : Int) - projectionDistance c now r)

/-- The projected rear of a record, signed (R68). -/
def projectedRear (c : WorkingConfig) (now : Time) (r : PeerRecord) : Int :=
  rearOf r.direction (projectedFront c now r) r.rigLength

/-- The gap to a record of own direction (R70). -/
def State.gapTo (s : State) (r : PeerRecord) : Int :=
  match s.road.direction with
  | .up => projectedRear s.cfg s.time r - s.front
  | .down => s.front - projectedRear s.cfg s.time r

/-- A record is a candidate (R69). -/
def State.candidate (s : State) (r : PeerRecord) : Bool :=
  decide (s.cfg.wAhead ≠ 0) && decide (s.road.quality ≠ .unknown) && decide (r.direction = s.road.direction) &&
    decide (r.quality ≠ .unknown) &&
    (match s.road.direction with
     | .up => decide ((s.front : Int) < projectedFront s.cfg s.time r)
     | .down => decide (projectedFront s.cfg s.time r < (s.front : Int))) &&
    decide (s.gapTo r ≤ s.cfg.wAhead)

/-- `a` is chosen before `b`: the smaller gap, and on equal gaps the lower id (R70). -/
def State.nearer (s : State) (a b : PeerRecord) : Bool :=
  decide (s.gapTo a < s.gapTo b) || (decide (s.gapTo a = s.gapTo b) && decide (a.id < b.id))

/-- The predecessor among candidates (R70). -/
def State.nearest (s : State) : List PeerRecord → Option PeerRecord
  | [] => none
  | r :: rs =>
    match State.nearest s rs with
    | none => some r
    | some v => if s.nearer r v then some r else some v

/-- The record selected as predecessor at this reading (R70). -/
def State.selected (s : State) : Option PeerRecord := s.nearest (s.peers.records.filter s.candidate)

/-- The predecessor id and gap from the record selected (R70). -/
def selectPredecessor (sel : Option PeerRecord) (s : State) : State :=
  s.setSpacing { s.spacing with predecessor := sel.map fun r => { id := r.id, gap := s.gapTo r } }

/-! ### Turns and link loss -/

/-- Stage 1: the turn-pending flag is taken (R75). -/
def takeTurn (s : State) : State :=
  if s.road.turnSpacing then
    let u := s.spacing
    let s1 := (s.setRoad { s.road with turnSpacing := false }).setSpacing
      { u with predecessor := none, role := if u.role = .parked then .parked else .head, convoyId := s.ownId,
               memberIndex := 0, splitTimer := none, parkTimer := none, wakeTimer := none }
    noteModeChange s.mode s1
  else s

/-- A LINK_LOSS hold is placed at this step (R80). -/
def State.linkLost (s : State) (r : PeerRecord) : Bool :=
  !r.fresh s.time && decide (s.spacing.role ≠ .parked) && decide (s.mode ≠ .lockout) &&
    decide (r.id ≠ s.spacing.lostId)

/-- Stage 4: the LINK_LOSS check (R80). -/
def linkLossCheck (sel : Option PeerRecord) (s : State) : State :=
  match sel with
  | none => s
  | some r =>
    if s.linkLost r then
      pushHold .linkLoss (some r.id) (s.setSpacing { s.spacing with lostId := r.id })
    else s

/-! ### Membership (sections 4.4 to 4.7) -/

/-- A predecessor is joinable (R71). -/
def State.joinable (s : State) (r : PeerRecord) : Bool :=
  (decide (r.mode = .head) || decide (r.mode = .follow) || decide (r.mode = .wait) || decide (r.mode = .halt)) &&
    decide (r.memberIndex < 15) && decide (1 ≤ r.convoyId) && decide (r.convoyId ≤ 30) && decide (r.convoyId ≠ s.ownId)

/-- The Spacing Unit written, the mode change it makes noted (R125). -/
def State.setMembership (s : State) (u : SpacingUnit) : State := noteModeChange s.mode (s.setSpacing u)

/-- Joining behind a record, with its join notice (R72, R78). -/
def joinBehind (r : PeerRecord) (u : SpacingUnit) (s : State) : State :=
  joinNotice r.id
    (s.setMembership
      { u with role := .follow, convoyId := r.convoyId, memberIndex := r.memberIndex + 1, splitTimer := none })

/-- A split (R74). -/
def splitOff (s : State) : State :=
  s.setMembership { s.spacing with role := .head, convoyId := s.ownId, memberIndex := 0, splitTimer := none }

/-- Membership updated behind a record: a join notice follows where the convoy id changes (R73). -/
def updateMembership (r : PeerRecord) (splitTimer : Running) (s : State) : State :=
  let s1 := s.setSpacing
    { s.spacing with convoyId := r.convoyId, memberIndex := r.memberIndex + 1, splitTimer := splitTimer }
  if r.convoyId = s.spacing.convoyId then s1 else joinNotice r.id s1

/-- The join test of a HEAD (R72). -/
def headMembership (sel : Option PeerRecord) (s : State) : State :=
  match sel with
  | none => s
  | some r => if s.joinable r = true ∧ s.gapTo r ≤ s.cfg.gJoin then joinBehind r s.spacing s else s

/-- The membership of a FOLLOW station (R73). -/
def followMembership (sel : Option PeerRecord) (s : State) : State :=
  match sel with
  | none => splitOff s
  | some r =>
    if s.joinable r = false then splitOff s
    else if s.gapTo r ≤ s.cfg.gSplit then updateMembership r none s
    else if s.spacing.splitTimer = none then updateMembership r (some s.time) s
    else if s.spacing.splitTimer.ranFor s.time s.cfg.tSplit then splitOff s
    else updateMembership r s.spacing.splitTimer s

/-- V_ref and V_meas are both 0 (R76). -/
def State.atRest (s : State) : Bool := decide (s.spacing.vRef = 0) && decide (s.drive.vMeas = 0)

/-- The station parks at this step (R76). -/
def State.parksNow (s : State) : Bool := s.atRest && s.spacing.parkTimer.ranFor s.time s.cfg.tPark

/-- The park timer as a test that does not park leaves it (R76). -/
def State.nextParkTimer (s : State) : Running :=
  if s.atRest then (match s.spacing.parkTimer with | none => some s.time | some t => some t) else none

/-- Parking (R76). -/
def park (s : State) : State := s.setMembership (s.spacing.parkedAs s.ownId)

/-- The throttle is driven far enough to wake a parked rig (R78). -/
def State.wakeDriven (s : State) : Bool :=
  decide (s.handset.band = .drive) && decide (s.cfg.vMax / 10 ≤ s.handset.throttle)

/-- The wake timer as a step that does not wake leaves it (R78). -/
def State.nextWakeTimer (s : State) : Running :=
  if s.wakeDriven then (match s.spacing.wakeTimer with | none => some s.time | some t => some t) else none

/-- The predecessor wakes a parked rig (R78, order 1). -/
def State.wokenBy (s : State) (r : PeerRecord) : Bool :=
  s.joinable r && (decide (r.mode = .head) || decide (r.mode = .follow) || decide (r.mode = .wait)) &&
    decide (s.gapTo r ≤ s.cfg.gJoin)

/-- The predecessor that wakes a parked rig, if any. -/
def State.waker (s : State) (sel : Option PeerRecord) : Option PeerRecord := sel.filter s.wokenBy

/-- A wake to HEAD (R78). -/
def wakeToHead (s : State) : State :=
  s.setMembership
    { s.spacing with role := .head, convoyId := s.ownId, memberIndex := 0, splitTimer := none, parkTimer := none,
                     wakeTimer := none }

/-- The wake tests of a PARKED role (R78). A step that has taken a turn wakes nobody (R75, log entry 26). -/
def parkedMembership (sel : Option PeerRecord) (autoEntry turned : Bool) (s : State) : State :=
  let stay := s.setSpacing { s.spacing with wakeTimer := s.nextWakeTimer }
  if turned then stay
  else
    match s.waker sel with
    | some r => joinBehind r { s.spacing with parkTimer := none, wakeTimer := none } s
    | none =>
      if autoEntry then wakeToHead s
      else if s.wakeDriven = true ∧ s.spacing.wakeTimer.ranFor s.time 500 = true then wakeToHead s
      else stay

/-- Membership of a station that is not PARKED, but for parking: a step that has taken a turn leaves the role
(R72, R73, R75). -/
def runningMembership (sel : Option PeerRecord) (turned : Bool) (s : State) : State :=
  match s.spacing.role with
  | .head => if turned then s else headMembership sel s
  | .follow => if turned then s else followMembership sel s
  | .parked => s

/-- Membership frozen: the split, park and wake timers are stopped (R79). -/
def freezeMembership (s : State) : State :=
  s.setSpacing { s.spacing with splitTimer := none, parkTimer := none, wakeTimer := none }

/-- Stage 5 (R71 to R79). The AUTO-entry flag is taken and cleared at every step (R77). -/
def membershipStage (sel : Option PeerRecord) (turned : Bool) (s : State) : State :=
  let auto := s.spacing.autoEntry
  let s1 := s.setSpacing { s.spacing with autoEntry := false }
  match s1.mode with
  | .halt | .lockout | .start => freezeMembership s1
  | .head | .follow =>
    if s1.parksNow = true ∧ turned = false then park s1
    else runningMembership sel turned (s1.setSpacing { s1.spacing with parkTimer := s1.nextParkTimer })
  | .wait =>
    let s2 := s1.setSpacing { s1.spacing with parkTimer := none }
    if s2.spacing.role = .parked then parkedMembership sel auto turned s2 else runningMembership sel turned s2
  | .parked => parkedMembership sel auto turned s1

/-! ### The spacing law (chapter 5) -/

/-- A quality of DRIFT or POOR adds one to the factor q (R86). -/
def Quality.doubt : Quality → Nat
  | .drift | .poor => 1
  | .good | .unknown => 0

/-- The effective standstill gap (R86). -/
def State.g0Eff (s : State) (r : PeerRecord) : Nat := s.cfg.g0 * (1 + r.quality.doubt + s.road.quality.doubt)

/-- The desired gap G* (R87). -/
def State.desiredGap (s : State) (r : PeerRecord) : Nat := s.g0Eff r + s.cfg.th * s.drive.vMeas / 1000

/-- The error E, clamped (R87). -/
def State.gapError (s : State) (r : PeerRecord) : Int := clampInt (-2000) 2000 (s.gapTo r - s.desiredGap r)

/-- The law speed V_law (R88). -/
def State.lawSpeed (s : State) (r : PeerRecord) : Int := max 0 ((r.speed : Int) + truncDiv (s.gapError r * s.cfg.kg) 64)

/-- The distance gs to the stop line that applies, if one does (R91). -/
def State.stopDistance (s : State) : Option Int :=
  match s.narrowAhead with
  | none => none
  | some i =>
    match s.cfg.narrows[i]? with
    | none => none
    | some e =>
      if (s.narrowRecord i).relation = .holding then none
      else
        match s.road.direction with
        | .up => some (stopLine s.cfg e .up - s.front)
        | .down => some (s.front - stopLine s.cfg e .down)

/-- V_stop for a distance to the stop line (R92). -/
def stopSpeed (c : WorkingConfig) (gs : Int) : Int := if gs ≤ 0 then 0 else truncDiv (gs * c.kg) 64

/-- The base speed (R93). -/
def State.baseSpeed (s : State) : Nat :=
  match s.spacing.role with
  | .head => if s.handset.band = .drive then s.handset.throttle else s.cfg.vCruise
  | .follow => s.cfg.vMax
  | .parked => 0

/-- The cap of one segment (R17). -/
def WorkingConfig.capOf (c : WorkingConfig) (i : Nat) : Nat :=
  if (c.segment i).capCode = 0 then c.vMax else (c.segment i).capCode * 64

/-- The next segment ahead, kept within 0..127 (R17). -/
def nextSegment (d : Direction) (i : Nat) : Nat :=
  match d with
  | .up => min (i + 1) 127
  | .down => i - 1

/-- The zone cap lookup (R17). -/
def State.zoneCap (s : State) : Nat :=
  min (s.cfg.capOf (segmentOf s.front)) (s.cfg.capOf (nextSegment s.road.direction (segmentOf s.front)))

/-- V_cap (R94). -/
def State.speedCap (s : State) : Nat :=
  let cap := min s.cfg.vMax s.zoneCap
  if s.road.quality = .unknown then min cap s.cfg.vCreep else cap

/-- The mode forces V_target to 0 (R95). -/
def Mode.forcesStop : Mode → Bool
  | .parked | .halt | .lockout | .start => true
  | .head | .follow | .wait => false

/-- The smallest of the terms that apply, before the mode decides (R95). -/
def State.computedTarget (s : State) (sel : Option PeerRecord) : Int :=
  let t1 : Int := min s.baseSpeed s.speedCap
  let t2 := match sel with | none => t1 | some r => min t1 (s.lawSpeed r)
  let t3 := match s.stopDistance with | none => t2 | some gs => min t2 (stopSpeed s.cfg gs)
  max 0 t3

/-- V_target (R95). -/
def State.target (s : State) (sel : Option PeerRecord) : Int :=
  if s.mode.forcesStop then 0 else s.computedTarget sel

/-- A speed step per control step for a configured acceleration (R96). -/
def speedStep (a : Nat) : Nat := max 1 (a * 20 / 1000)

/-- V_ref by the rate limit (R96). -/
def rateLimited (c : WorkingConfig) (old : Nat) (target : Int) : Nat :=
  (max 0 (clampInt ((old : Int) - speedStep c.aDn) ((old : Int) + speedStep c.aUp) target)).toNat

/-- The close-in flag rises at this step (R89). -/
def State.closeInRises (s : State) (sel : Option PeerRecord) : Bool :=
  match sel with
  | none => false
  | some r => !s.spacing.closeIn && decide (s.gapTo r < (s.g0Eff r / 2 : Nat))

/-- The close-in flag stays set at this step (R90). -/
def State.closeInStays (s : State) (sel : Option PeerRecord) : Bool :=
  match sel with
  | none => false
  | some r => s.spacing.closeIn && decide (s.gapTo r < s.g0Eff r)

/-- The close-in flag as this step leaves it (R89, R90). -/
def State.nextCloseIn (s : State) (sel : Option PeerRecord) : Bool := s.closeInRises sel || s.closeInStays sel

/-- V_ref as this step leaves it (R89, R90, R96, R97). -/
def State.nextVRef (s : State) (sel : Option PeerRecord) : Nat :=
  if s.nextCloseIn sel || s.holds.unreleased .obstruction then 0 else rateLimited s.cfg s.spacing.vRef (s.target sel)

/-- What a rise of the close-in flag does outside the flag: it is counted and the kill path starts (R89, R99, R108). -/
def closeInRise (s : State) : State :=
  closeInNotice (s.setCounters { s.counters with closeIn := bump s.counters.closeIn })

/-- Stage 6: the speed reference, and the BRAKING flag last (R85 to R98). -/
def referenceStage (sel : Option PeerRecord) (s : State) : State :=
  let closeIn := s.nextCloseIn sel
  let vRef := s.nextVRef sel
  let s1 := if s.closeInRises sel then closeInRise s else s
  let braking := decide (vRef < s.spacing.vRef) || closeIn || decide (s1.drive.applied.state = .brake)
  s1.setSpacing { s1.spacing with vRef := vRef, closeIn := closeIn, braking := braking }

/-- The stages of one control step, in order (R66). -/
def spacingStages (s : State) : State :=
  let s1 := takeTurn s
  let sel := s1.selected
  referenceStage sel (membershipStage sel s.road.turnSpacing (linkLossCheck sel (selectPredecessor sel s1)))

/-- One expiry of the Spacing Unit's step timer: the control step, and the Air Port's step sample at the same expiry,
before it or after it (R40, R66, R98, log entry 7). -/
def spacingStep (s : State) : State :=
  freeOrder [fun s => spacingStages (takeSample s), fun s => takeSample (spacingStages s)] s

/-- The Spacing Unit's share of an obstruction activation: V_ref is 0 at once (R97). -/
def spacingKillNotice (s : State) : State := s.setSpacing { s.spacing with vRef := 0 }

end Sys2Proof.Machine
end

