-- ==== Sys2Proof/Machine/Sensor.lean ====
section
/-!
DEFINITION. The Sensor and Lamp block (chapter 10): input conditioning, obstruction stops, and the lamp lines.
-/

namespace Sys2Proof.Machine

/-- A raw level is ACTIVE while the line stands at its active electrical level (R169). -/
def rawActive (p : Polarity) (l : Level) : Bool :=
  match p, l with
  | .activeHigh, .high => true
  | .activeHigh, .low => false
  | .activeLow, .high => false
  | .activeLow, .low => true

/-- The raw HITCH level (R169). -/
def State.hitchRaw (s : State) : Bool := rawActive s.cfg.hitchPolarity s.sensors.hitchLine

/-- The raw OBST level (R169). -/
def State.obstRaw (s : State) : Bool := rawActive s.cfg.obstPolarity s.sensors.obstLine

/-- Conditioning runs: the block holds polarities from a successful load (R169). -/
def State.conditioning (s : State) : Bool := s.config.isSome

/-! ### HITCH (R170) -/

/-- The HITCH debounce timer by the raw and conditioned levels: stopped while they are equal, else running (R170). -/
def State.nextHitchTimer (s : State) : Running :=
  if s.hitchRaw = s.sensors.hitchActive then none
  else match s.sensors.hitchTimer with | none => some s.time | some t => some t

/-- The HITCH line goes to a level (R170). Before the first successful load the edge is ignored but for the line itself
(R169). -/
def hitchEdge (l : Level) (s : State) : State :=
  let s1 := s.setSensors { s.sensors with hitchLine := l }
  if s1.conditioning = true ∧ l ≠ s.sensors.hitchLine then
    s1.setSensors { s1.sensors with hitchTimer := s1.nextHitchTimer }
  else s1

/-- The hitch state for a conditioned level (R169, R170). -/
def hitchOf (active : Bool) : HitchState := if active then .coupled else .uncoupled

/-- A hitch change as the Road Tracker takes it (R11, R12). -/
def hitchChange (h : HitchState) (s : State) : State :=
  s.setRoad { s.road with hitch := h, rigLength := s.cfg.rigLength h }

/-- The HITCH debounce has run its 200 ms (R170). -/
def hitchExpiry (s : State) : State :=
  hitchChange (hitchOf s.hitchRaw) (s.setSensors { s.sensors with hitchActive := s.hitchRaw, hitchTimer := none })

/-! ### OBST (R171 to R175) -/

/-- An obstruction activation: outside START and LOCKOUT it pushes OBSTRUCTION, gives kill notices to the Spacing and
Drive Units and counts an obstruction stop (R173). The push reads V_ref for its record and the Spacing Unit's notice sets
it to 0, and the book does not order them, so the order is a free choice (log entry 6). -/
def obstructionActivation (s : State) : State :=
  if s.stackClosed then s
  else
    let s1 := freeOrder
      [fun s => spacingKillNotice (obstructionKillNotice (pushHold .obstruction none s)),
       fun s => pushHold .obstruction none (obstructionKillNotice (spacingKillNotice s))] s
    s1.setCounters { s1.counters with obstructionStop := bump s1.counters.obstructionStop }

/-- The OBST line goes to a level (R171). -/
def obstEdge (l : Level) (s : State) : State :=
  let s1 := s.setSensors { s.sensors with obstLine := l }
  if s1.conditioning = true ∧ l ≠ s.sensors.obstLine then
    if s1.obstRaw then
      if s1.sensors.obstActive then s1.setSensors { s1.sensors with obstTimer := none }
      else obstructionActivation (s1.setSensors { s1.sensors with obstActive := true })
    else if s1.sensors.obstActive then s1.setSensors { s1.sensors with obstTimer := some s1.time }
    else s1
  else s1

/-- An obstruction input release: in MOMENTARY it requests the release of OBSTRUCTION (R174). -/
def obstructionInputRelease (s : State) : State :=
  match s.cfg.obstMode with
  | .momentary => releaseHold .obstruction s
  | .latched => s

/-- The OBST release debounce has run its 200 ms (R171). -/
def obstExpiry (s : State) : State :=
  obstructionInputRelease (s.setSensors { s.sensors with obstActive := false, obstTimer := none })

/-- A resume notice: in LATCHED with the OBST level INACTIVE it requests the release of OBSTRUCTION (R175). -/
def resumeNotice (s : State) : State :=
  if s.cfg.obstMode = .latched ∧ s.sensors.obstActive = false then releaseHold .obstruction s else s

/-- The OBST level taken afresh from the line at a load or a restart: INACTIVE first, then the raw level, an ACTIVE one
being an activation (R172). -/
def takeObstLevel (s : State) : State :=
  let s1 := s.setSensors { s.sensors with obstActive := s.conditioning && s.obstRaw, obstTimer := none }
  if s1.sensors.obstActive then obstructionActivation s1 else s1

/-! ### Lamps (section 10.3) -/

/-- A lamp pattern (R176). -/
inductive Pattern where
  | on
  | off
  | flash
  | flashInv
  | fast
  | undriven
  deriving DecidableEq, Repr

/-- A lamp line driven in a pattern at a point of the timebase (R176). -/
def Pattern.drive (p : Pattern) (timebase : Nat) : LineDrive :=
  match p with
  | .on => .on
  | .off => .off
  | .flash => if timebase ≤ 499 then .on else .off
  | .flashInv => if 500 ≤ timebase then .on else .off
  | .fast => if timebase % 250 ≤ 124 then .on else .off
  | .undriven => .undriven

/-- The applied output is BRAKE or BRAKE_HOLD. -/
def BridgeOutput.braked (o : BridgeOutput) : Bool := decide (o.state = .brake) || decide (o.state = .brakeHold)

/-- ON where a condition holds, else OFF. -/
def Pattern.onIf (b : Bool) : Pattern := if b then .on else .off

/-- The BRAKE pattern in every mode but LOCKOUT and START (R177). -/
def State.brakeLampOn (s : State) : Bool := s.drive.applied.braked || s.spacing.braking

/-- The pattern of the BRAKE line (R177). -/
def State.brakePattern (s : State) : Pattern :=
  match s.mode with
  | .lockout => .flashInv
  | .start => .onIf s.drive.applied.braked
  | .halt | .wait | .head | .follow | .parked => .onIf s.brakeLampOn

/-- The pattern of the AMBER line (R177). -/
def State.amberPattern (s : State) : Pattern :=
  match s.mode with
  | .lockout => .flash
  | .start => .off
  | .halt => .on
  | .wait => .flash
  | .head => if s.road.quality = .unknown then .fast else .off
  | .follow => .off
  | .parked => .off

/-- The pattern of the HEAD line (R177). -/
def State.headPattern (s : State) : Pattern :=
  match s.mode with
  | .lockout => .flash
  | .start => .off
  | .halt | .wait | .head | .follow => .on
  | .parked => .off

/-- A line not fitted, or a block without a configuration, leaves the line undriven (R176). -/
def State.fitted (s : State) (fit : Bool) (p : Pattern) : Pattern := if s.config.isSome && fit then p else .undriven

/-- The lamps as R176 and R177 give them from the state as it stands. -/
def State.lampsNow (s : State) : Lamps :=
  { timebase := s.lamps.timebase
    brake := (s.fitted s.cfg.brakeFitted s.brakePattern).drive s.lamps.timebase
    amber := (s.fitted s.cfg.amberFitted s.amberPattern).drive s.lamps.timebase
    head := (s.fitted s.cfg.headFitted s.headPattern).drive s.lamps.timebase }

/-- Each lamp line takes its pattern at the moment its inputs change (R177; DESIGN CHOICE, log entry 29). -/
def settleLamps (s : State) : State := s.setLamps s.lampsNow

/-- The end of every command: the lamp lines stand as the state now gives them. -/
def done (s : State) : Host.Outcome State Fault Refusal := .next (settleLamps s)

end Sys2Proof.Machine
end

