-- ==== Sys2Proof/Machine/Handset.lean ====
section
/-!
DEFINITION. The Handset Decoder (sections 9.1 and 9.2): pulses, bands, gestures and handset loss.
-/

namespace Sys2Proof.Machine

/-- A pulse from 800 µs to 2,200 µs inclusive is valid (R155). -/
def validPulse (w : Nat) : Bool := decide (800 ≤ w) && decide (w ≤ 2200)

/-- The throttle value a valid pulse sets (R156). -/
def throttleOf (vMax w : Nat) : Nat := if w ≤ 1050 then 0 else if w < 1950 then (w - 1050) * vMax / 900 else vMax

/-- The band after a valid mode pulse (R157). -/
def bandAfter (band : Band) (w : Nat) : Band :=
  if w ≤ 1299 then .auto
  else if w ≤ 1399 then band
  else if w ≤ 1600 then .drive
  else if w ≤ 1700 then band
  else .stop

/-- The three things hold for which the reset timer runs (R162). -/
def Handset.resetHeld (h : Handset) : Bool :=
  decide (h.band = .stop) && h.throttleChannel.present && decide (1950 ≤ h.lastWidth)

/-- The reset timer as the three things and the reset lock leave it (R162). -/
def Handset.withResetTimer (h : Handset) (now : Time) : Handset :=
  { h with resetTimer :=
      if h.resetHeld then
        match h.resetTimer with
        | some t => some t
        | none => if h.resetLock then none else some now
      else none }

/-- The Handset Decoder written, its reset timer brought up to date (R162). -/
def State.setDecoder (s : State) (h : Handset) : State := s.setHandset (h.withResetTimer s.time)

/-- A pulse on the throttle line (R155, R156, R162). -/
def throttlePulse (w : Nat) (s : State) : State :=
  if s.mode = .start ∨ validPulse w = false then s
  else
    s.setDecoder
      { s.handset with
        throttleChannel := { present := true, lastPulse := s.time }
        throttle := if s.validConfig then throttleOf s.cfg.vMax w else 0
        lastWidth := w
        resetLock := s.handset.resetLock && decide (1950 ≤ w) }

/-! ### Resume (R160, R161) -/

/-- What a resume gesture does: the releases, the resume notice, and RESUME_ALL where the last order issued was STOP_ALL
(R160; the order of the releases is DEDUCED, log entry 34). -/
def resumeGesture (s : State) : State :=
  let s1 := resumeNotice (releaseHold .linkLoss (releaseHold .handsetStop s))
  if s1.order.lastIssued = .stopAll ∧ s1.spacing.role = .head then issueOrder .resumeAll s1 else s1

/-- The RESUME request's flag as it is set (R161). -/
def setResumePending (s : State) : State := s.setHandset { s.handset with resumePending := true }

/-- The decoder takes the resume-pending flag as it arrives, clears it, and acts as on a resume gesture (R161). -/
def takeResumePending (s : State) : State :=
  if s.handset.resumePending then resumeGesture (s.setHandset { s.handset with resumePending := false }) else s

/-! ### Band changes (R157 to R160) -/

/-- The band change makes a resume gesture: from STOP to AUTO or DRIVE, the STOP timer having run for 300 ms (R160). -/
def State.resumesOn (s : State) (new : Band) : Bool :=
  decide (s.handset.band = .stop) && (decide (new = .auto) || decide (new = .drive)) &&
    s.handset.stopTimer.ranFor s.time 300

/-- The decoder's own state after a band-change event (R157, R159, R162). -/
def Handset.toBand (h : Handset) (now : Time) (new : Band) : Handset :=
  { h with band := new
           stopTimer := if new = .stop then some now else none
           stopHeld := false
           resetLock := h.resetLock && !(decide (new = .auto) || decide (new = .drive)) }

/-- A band-change event into AUTO sets the AUTO-entry flag (R77). -/
def noteBandChange (new : Band) (s : State) : State :=
  if new = .auto then s.setSpacing { s.spacing with autoEntry := true } else s

/-- A band-change event (R157): to the Spacing Unit, and to the gesture rules. -/
def bandChange (new : Band) (s : State) : State :=
  if new = s.handset.band then s
  else
    let s1 := noteBandChange new (s.setDecoder (s.handset.toBand s.time new))
    if new = .stop then pushHold .handsetStop none s1
    else if s.resumesOn new then resumeGesture s1
    else s1

/-- A pulse on the mode line (R155, R157). -/
def modePulse (w : Nat) (s : State) : State :=
  if s.mode = .start ∨ validPulse w = false then s
  else
    bandChange (bandAfter s.handset.band w)
      (s.setDecoder { s.handset with modeChannel := { present := true, lastPulse := s.time } })

/-! ### Absence (R155, R158) -/

/-- A pulse channel. -/
def Handset.channel (h : Handset) : Channel → PulseChannel
  | .throttle => h.throttleChannel
  | .mode => h.modeChannel

/-- A channel is PRESENT and 250 ms have passed since its last valid pulse (R155). -/
def State.channelSilent (s : State) (c : Channel) : Bool :=
  (s.handset.channel c).present && decide (250 ≤ elapsed s.time (s.handset.channel c).lastPulse)

/-- A handset loss pushes HANDSET_STOP: the band stood at DRIVE and the role is HEAD (R158). -/
def handsetLoss (bandBefore : Band) (s : State) : State :=
  if bandBefore = .drive ∧ s.spacing.role = .head then pushHold .handsetStop none s else s

/-- A channel becomes ABSENT (R155 to R158). -/
def channelAbsent (c : Channel) (s : State) : State :=
  match c with
  | .throttle =>
    handsetLoss s.handset.band
      (s.setDecoder
        { s.handset with throttleChannel := { s.handset.throttleChannel with present := false }, throttle := 0 })
  | .mode =>
    handsetLoss s.handset.band
      (bandChange .absent
        (s.setDecoder { s.handset with modeChannel := { s.handset.modeChannel with present := false } }))

/-! ### The STOP timer and the reset gesture (R159, R162) -/

/-- The STOP timer has run for 1,000 ms and this entry into STOP has not been taken yet (R159). -/
def State.stopHeldLong (s : State) : Bool := s.handset.stopTimer.ranFor s.time 1000 && !s.handset.stopHeld

/-- STOP held for 1,000 ms: a HEAD outside LOCKOUT issues STOP_ALL, once for each entry (R159). -/
def stopTimerExpiry (s : State) : State := issueOrder .stopAll (s.setHandset { s.handset with stopHeld := true })

/-- The reset timer has run for 3,000 ms, in any mode but START (R162). -/
def State.resetHeldLong (s : State) : Bool :=
  s.handset.resetTimer.ranFor s.time 3000 && decide (s.mode ≠ .start)

end Sys2Proof.Machine
end

