-- ==== Sys2Proof/Machine/Image.lean ====
section
/-!
DEFINITION. The configuration image (section 11.1): its fields, the checks of a load (R180), and the working configuration
it gives (R182, R132).
-/

namespace Sys2Proof.Machine

/-! ### The station section -/

/-- The station fields in image order (R179). -/
def stationFields : List StationField :=
  [.lTractor, .lTrailer, .eS, .readerOffset, .gradeBiasEnable, .hitchPolarity, .obstPolarity, .obstMode,
   .brakeFitted, .amberFitted, .headFitted, .pB, .wAhead, .hLimit, .g0, .th, .kg,
   .vMax, .vCruise, .vCreep, .aUp, .aDn, .gJoin, .gSplit, .tSplit, .tPark, .kFf, .kP, .kI]

/-- The width of a station field in bytes (R179). -/
def StationField.width : StationField → Nat
  | .gradeBiasEnable | .hitchPolarity | .obstPolarity | .obstMode | .brakeFitted | .amberFitted | .headFitted | .pB
  | .kg | .vCreep | .kP | .kI => 1
  | .lTractor | .lTrailer | .eS | .readerOffset | .wAhead | .hLimit | .g0 | .th | .vMax | .vCruise | .aUp | .aDn
  | .gJoin | .gSplit | .tSplit | .tPark | .kFf => 2

/-- The offset of a field in a sequence of fields that starts at an offset. -/
def offsetIn (start : Nat) (f : StationField) : List StationField → Nat
  | [] => start
  | x :: xs => if x = f then start else offsetIn (start + x.width) f xs

/-- The offset of a station field in the image: the station section follows the four header bytes (R179). -/
def StationField.offset (f : StationField) : Nat := offsetIn 4 f stationFields

/-- The fixed range of a station field (R179). The bounds of V_cruise and G_split that depend on other fields are applied
after it (R182). -/
def StationField.range : StationField → Nat × Nat
  | .lTractor => (100, 2000)
  | .lTrailer => (0, 2095)
  | .eS => (50, 2000)
  | .readerOffset => (0, 300)
  | .gradeBiasEnable | .hitchPolarity | .obstPolarity | .obstMode | .brakeFitted | .amberFitted | .headFitted => (0, 1)
  | .pB => (10, 50)
  | .wAhead => (0, 8000)
  | .hLimit => (100, 2000)
  | .g0 => (50, 1000)
  | .th => (0, 3000)
  | .kg => (1, 63)
  | .vMax => (100, 1023)
  | .vCruise => (0, 1023)
  | .vCreep => (20, 150)
  | .aUp => (50, 2000)
  | .aDn => (50, 3000)
  | .gJoin => (100, 3000)
  | .gSplit => (200, 6000)
  | .tSplit => (500, 10000)
  | .tPark => (2000, 60000)
  | .kFf => (0, 1023)
  | .kP => (0, 255)
  | .kI => (0, 255)

/-- A number of one or two bytes at an offset (R179). -/
def imageNumber (image : List Byte) (offset width : Nat) : Nat :=
  if width = 1 then frameByte image offset else frameWord image offset

/-- A station field as the image holds it. -/
def rawStation (image : List Byte) (f : StationField) : Nat := imageNumber image f.offset f.width

/-- A station field brought within its fixed range (R182). -/
def rangedStation (image : List Byte) (f : StationField) : Nat := clampNat f.range.1 f.range.2 (rawStation image f)

/-- A station field as the working configuration takes it, the two dependent bounds applied last (R182). -/
def stationValue (image : List Byte) (f : StationField) : Nat :=
  match f with
  | .vCruise => min (rangedStation image .vCruise) (rangedStation image .vMax)
  | .gSplit => max (rangedStation image .gSplit) (rangedStation image .gJoin + 100)
  | f => rangedStation image f

/-! ### The route section -/

/-- The ranged route fields in image order (R179). -/
def routeFields : List RouteField := [.lRoad, .snap, .drift, .dClaim, .dStop, .nAsk, .askInterval, .wAns]

/-- The offset and width of a route field: the route section starts at byte 50 (R179). -/
def RouteField.place : RouteField → Nat × Nat
  | .lRoad => (50, 2)
  | .snap => (52, 2)
  | .drift => (54, 2)
  | .dClaim => (56, 2)
  | .dStop => (58, 2)
  | .nAsk => (60, 1)
  | .askInterval => (61, 1)
  | .wAns => (62, 2)

/-- The range of a route field (R179). -/
def RouteField.range : RouteField → Nat × Nat
  | .lRoad => (2000, 65000)
  | .snap => (20, 500)
  | .drift => (1000, 20000)
  | .dClaim => (300, 5000)
  | .dStop => (50, 500)
  | .nAsk => (2, 7)
  | .askInterval => (50, 250)
  | .wAns => (100, 400)

/-- A route field as the image holds it. -/
def rawRoute (image : List Byte) (f : RouteField) : Nat := imageNumber image f.place.1 f.place.2

/-- A route field brought within its range (R182). -/
def routeValue (image : List Byte) (f : RouteField) : Nat := clampNat f.range.1 f.range.2 (rawRoute image f)

/-- The marker count (R179). -/
def markerCount (image : List Byte) : Nat := frameByte image 64

/-- The narrow count (R179). -/
def narrowCount (image : List Byte) : Nat := frameByte image 65

/-- Where the narrow entries start. -/
def narrowsAt (image : List Byte) : Nat := 66 + 4 * markerCount image

/-- Where the segment entries start. -/
def segmentsAt (image : List Byte) : Nat := narrowsAt image + 4 * narrowCount image

/-- Marker entry `i` as the image holds it, not yet tested. -/
def rawMarker (image : List Byte) (i : Nat) : MarkerEntry :=
  { code := frameByte image (66 + 4 * i), position := frameWord image (67 + 4 * i), kind := frameByte image (69 + 4 * i),
    disabled := none }

/-- Narrow entry `i` as the image holds it, not yet checked. -/
def rawNarrow (image : List Byte) (i : Nat) : NarrowEntry :=
  { lo := frameWord image (narrowsAt image + 4 * i), hi := frameWord image (narrowsAt image + 4 * i + 2),
    disabled := none }

/-- A two's-complement number of two bytes (R179). -/
def signedWord (n : Nat) : Int := if n < 32768 then n else (n : Int) - 65536

/-- The grade bias of segment `i` as the image holds it. -/
def rawBias (image : List Byte) (i : Nat) : Int := signedWord (frameWord image (segmentsAt image + 3 * i))

/-- The zone cap code of segment `i` as the image holds it. -/
def rawCap (image : List Byte) (i : Nat) : Nat := frameByte image (segmentsAt image + 3 * i + 2)

/-- Segment entry `i` brought within its ranges (R182). -/
def segmentValue (image : List Byte) (i : Nat) : SegmentEntry :=
  { gradeBias := clampInt (-255) 255 (rawBias image i), capCode := min (rawCap image i) 15 }

/-! ### The tests of the tables -/

/-- The tests of a marker entry against the entries before it (R182). -/
def markerFault (lRoad : Nat) (before : List MarkerEntry) (m : MarkerEntry) : Option MarkerFault :=
  if m.code = 0 ∨ m.code = 255 then some .code
  else if 2 < m.kind then some .kind
  else if lRoad < m.position then some .range
  else if before.any (fun x => x.disabled.isNone && decide (x.code = m.code)) then some .duplicate
  else none

/-- The marker entries tested in index order (R182). -/
def testMarkers (lRoad : Nat) (entries : List MarkerEntry) : List MarkerEntry :=
  entries.foldl (fun acc m => acc ++ [{ m with disabled := markerFault lRoad acc m }]) []

/-- Two narrows share at least one position (R132). -/
def narrowsOverlap (a b : NarrowEntry) : Bool := decide (a.lo ≤ b.hi) && decide (b.lo ≤ a.hi)

/-- The distance between two narrows that do not overlap (R132). -/
def narrowDistance (a b : NarrowEntry) : Nat := if a.hi < b.lo then b.lo - a.hi else a.lo - b.hi

/-- The checks of a narrow entry against the entries before it, of which the enabled ones count (R132). -/
def narrowFault (lRoad dClaim dStop : Nat) (before : List NarrowEntry) (e : NarrowEntry) : Option NarrowFault :=
  let enabled := before.filter (fun x => x.disabled.isNone)
  if e.hi ≤ e.lo then some .order
  else if lRoad < e.hi then some .range
  else if enabled.any (fun x => narrowsOverlap x e) then some .overlap
  else if enabled.any (fun x => decide (narrowDistance x e < dClaim + dStop + 4095)) then some .spacing
  else none

/-- The narrow entries checked in index order (R132). -/
def checkNarrows (lRoad dClaim dStop : Nat) (entries : List NarrowEntry) : List NarrowEntry :=
  entries.foldl (fun acc e => acc ++ [{ e with disabled := narrowFault lRoad dClaim dStop acc e }]) []

/-! ### The working configuration of an image -/

/-- A polarity from its byte (R179). -/
def Polarity.fromByte (n : Nat) : Polarity := if n = 0 then .activeLow else .activeHigh

/-- An obstruction mode from its byte (R179). -/
def ObstMode.fromByte (n : Nat) : ObstMode := if n = 0 then .momentary else .latched

/-- The working configuration a sound image gives (R182). -/
def configOf (image : List Byte) : WorkingConfig :=
  let st := stationValue image
  let rt := routeValue image
  { stationId := frameByte image 3, lTractor := st .lTractor, lTrailer := st .lTrailer, eS := st .eS,
    readerOffset := st .readerOffset, gradeBiasOn := decide (st .gradeBiasEnable ≠ 0),
    hitchPolarity := .fromByte (st .hitchPolarity), obstPolarity := .fromByte (st .obstPolarity),
    obstMode := .fromByte (st .obstMode), brakeFitted := decide (st .brakeFitted ≠ 0),
    amberFitted := decide (st .amberFitted ≠ 0), headFitted := decide (st .headFitted ≠ 0), pB := st .pB,
    wAhead := st .wAhead, hLimit := st .hLimit, g0 := st .g0, th := st .th, kg := st .kg, vMax := st .vMax,
    vCruise := st .vCruise, vCreep := st .vCreep, aUp := st .aUp, aDn := st .aDn, gJoin := st .gJoin,
    gSplit := st .gSplit, tSplit := st .tSplit, tPark := st .tPark, kFf := st .kFf, kP := st .kP, kI := st .kI,
    lRoad := rt .lRoad, snap := rt .snap, drift := rt .drift, dClaim := rt .dClaim, dStop := rt .dStop,
    nAsk := rt .nAsk, askInterval := rt .askInterval, wAns := rt .wAns,
    markers := testMarkers (rt .lRoad) ((List.range (markerCount image)).map (rawMarker image)),
    narrows := checkNarrows (rt .lRoad) (rt .dClaim) (rt .dStop) ((List.range (narrowCount image)).map (rawNarrow image)),
    segments := (List.range 128).map (segmentValue image) }

/-- The fields that took a bound (R182). -/
def clampedMarks (image : List Byte) : List ConfigField :=
  ((stationFields.filter (fun f => decide (stationValue image f ≠ rawStation image f))).map .station)
  ++ ((routeFields.filter (fun f => decide (routeValue image f ≠ rawRoute image f))).map .route)
  ++ (((List.range 128).filter (fun i => decide ((segmentValue image i).gradeBias ≠ rawBias image i))).map .gradeBias)
  ++ (((List.range 128).filter (fun i => decide ((segmentValue image i).capCode ≠ rawCap image i))).map .zoneCap)

/-! ### The checks of a load (R180) -/

/-- The image length the header names (R179). -/
def namedLength (image : List Byte) : Nat := frameWord image 1

/-- The tests after the four header bytes (R180). -/
def headerFault (image : List Byte) : Option LoadReason :=
  if frameByte image 0 ≠ 1 then some .version
  else if namedLength image < 452 ∨ 676 < namedLength image then some .length
  else none

/-- The sum of bytes. -/
def byteSum (bytes : List Byte) : Nat := bytes.foldl (fun a b => a + b.toNat) 0

/-- The checks of a complete image, in order (R180). -/
def imageFault (image : List Byte) : Option LoadReason :=
  if byteSum (image.take (image.length - 2)) % 65536 ≠ frameWord image (image.length - 2) then some .sum
  else if frameByte image 3 = 0 ∨ 30 < frameByte image 3 then some .id
  else if 48 < markerCount image ∨ 8 < narrowCount image ∨
      image.length ≠ 452 + 4 * markerCount image + 4 * narrowCount image then some .structure
  else none

/-- The load after another byte of the image has been placed in the load buffer (R180). -/
def loadAfter (buffer : List Byte) (now : Time) : LoadPhase :=
  if buffer.length < 4 then .reading buffer now
  else
    match headerFault buffer with
    | some r => .ended buffer (some r)
    | none => if buffer.length < namedLength buffer then .reading buffer now else .ended buffer (imageFault buffer)

end Sys2Proof.Machine
end

