-- ==== Sys2Proof/Machine/Road.lean ====
section
/-!
DEFINITION. The Road Tracker (chapter 1): encoder edges, markers and turns.
-/

namespace Sys2Proof.Machine

/-- A position in µm kept to the road (R2). -/
def onRoad (c : WorkingConfig) (um : Int) : Nat := (clampInt 0 ((c.lRoad : Int) * 1000) um).toNat

/-- One encoder edge of travel in the current direction (R3). -/
def RoadTracker.moved (r : RoadTracker) (c : WorkingConfig) : Nat :=
  match r.direction with
  | .up => onRoad c ((r.posUm : Int) + c.eS)
  | .down => onRoad c ((r.posUm : Int) - c.eS)

/-- The Road Tracker after an edge: position, distance since the last marker, and the fall from GOOD to DRIFT
(R3, R4). -/
def RoadTracker.edge (r : RoadTracker) (c : WorkingConfig) : RoadTracker :=
  let since := min (r.sinceMarkerUm + c.eS) 65535000
  { r with posUm := r.moved c
           sinceMarkerUm := since
           quality := if r.quality = .good ∧ c.drift * 1000 < since then .drift else r.quality }

/-- An edge on the encoder line: to the Road Tracker where a valid configuration is held (R3, R5), and to the Drive Unit's
count (R102). -/
def encoderEdge (s : State) : State :=
  let s1 := if s.validConfig then s.setRoad (s.road.edge s.cfg) else s
  s1.setDrive s1.drive.countEdge

/-! ### Markers (section 1.3) -/

/-- The enabled marker entry of a code; R1 leaves one at most. -/
def WorkingConfig.marker (c : WorkingConfig) (code : Nat) : Option MarkerEntry :=
  c.markers.find? (fun m => m.disabled.isNone && decide (m.code = code))

/-- The table position lies inside an enabled narrow (R6). -/
def WorkingConfig.inNarrow (c : WorkingConfig) (p : Nat) : Bool :=
  c.narrows.any (fun e => e.disabled.isNone && decide (e.lo ≤ p) && decide (p ≤ e.hi))

/-- The new direction of a TURN entry (R1, R179). -/
def MarkerEntry.newDirection (m : MarkerEntry) : Option Direction :=
  if m.kind = 1 then some .up else if m.kind = 2 then some .down else none

/-- The corrected front in mm (R7). -/
def correctedFront (c : WorkingConfig) (d : Direction) (p : Nat) : Nat :=
  (clampInt 0 c.lRoad
    (match d with
     | .up => (p : Int) + c.readerOffset
     | .down => (p : Int) - c.readerOffset)).toNat

/-- The discrepancy of a correction (R7). -/
def State.discrepancy (s : State) (corrected : Nat) : Nat := ((corrected : Int) - s.front).natAbs

/-- A correction sets quality POOR (R8). -/
def State.correctionPoor (s : State) (corrected : Nat) : Bool :=
  decide (s.road.quality ≠ .unknown) && decide (s.cfg.snap < s.discrepancy corrected)

/-- A marker correction (R7, R8). -/
def correctPosition (p : Nat) (s : State) : State :=
  let front := correctedFront s.cfg s.road.direction p
  let poor := s.correctionPoor front
  let s1 := s.setRoad
    { s.road with posUm := front * 1000, quality := if poor then .poor else .good, sinceMarkerUm := 0 }
  if poor then s1.setCounters { s1.counters with largeCorrection := bump s1.counters.largeCorrection } else s1

/-- A turn marker's new direction; where it differs, a turn event sets both turn-pending flags (R10). -/
def turnTo (d : Direction) (s : State) : State :=
  if d = s.road.direction then s
  else s.setRoad { s.road with direction := d, turnSpacing := true, turnNarrow := true }

/-- A code byte matching an enabled entry: a turn marker when the entry is TURN and lies outside every enabled narrow, and
else a position marker (R6). -/
def takeMarker (m : MarkerEntry) (s : State) : State :=
  let s1 := correctPosition m.position s
  match m.newDirection with
  | none => s1
  | some d => if s.cfg.inNarrow m.position then s1 else turnTo d s1

/-- A code byte from the marker reader (R5, R6). -/
def markerCode (code : Nat) (s : State) : State :=
  if s.validConfig = false ∨ code = 0 then s
  else if code = 255 then s.setCounters { s.counters with unreadableMarker := bump s.counters.unreadableMarker }
  else
    match s.cfg.marker code with
    | none => s.setCounters { s.counters with unknownMarker := bump s.counters.unknownMarker }
    | some m => takeMarker m s

end Sys2Proof.Machine
end

