-- ==== Sys2Proof/Machine/Loader.lean ====
section
/-!
DEFINITION. Power-on, the load and its two outcomes, and restart (sections 11.2 and 11.3).
-/

namespace Sys2Proof.Machine

/-- Power-on (R130 and the power-on values of each chapter). The input lines are outside parts' and stand as they are;
the queue of commands and `freeCount` are not the part's (log entries 9 and 22). -/
def powerOn (s : State) : State :=
  { State.reset with
    air := .powerOn s.air.busy
    sensors := .powerOn s.sensors.hitchLine s.sensors.obstLine
    freeCount := s.freeCount
    pending := s.pending }

/-! ### The load (R180) -/

/-- The load has gone 200 ms without its next byte (R180). -/
def State.byteOverdue (s : State) : Bool :=
  match s.loader.phase with
  | .reading _ last => decide (200 ≤ elapsed s.time last)
  | _ => false

/-- A byte of the image (R180). Where no load reads, it is ignored (log entry 36). -/
def imageByte (b : Byte) (s : State) : State :=
  match s.loader.phase with
  | .reading buffer _ => s.setLoader { s.loader with phase := loadAfter (buffer ++ [b]) s.time }
  | _ => s

/-- A load that fails for want of a byte (R180). -/
def loadByteTimeout (s : State) : State :=
  match s.loader.phase with
  | .reading buffer _ => s.setLoader { s.loader with phase := .ended buffer (some .timeout) }
  | _ => s

/-- A load ends in failure: the reason is set, the lockout cause is CONFIG and the Drive Unit gets its notice
(R110, R127, R180, R181). -/
def failLoad (r : LoadReason) (s : State) : State :=
  (enterLockout .config s).setLoader { s.loader with phase := .idle, reason := r }

/-- The load that has ended in failure is reported (R181). -/
def loadFailure (s : State) : State :=
  match s.loader.phase with
  | .ended _ (some r) => failLoad r s
  | _ => s

/-! ### A successful load (R183) -/

/-- The step timers of the Spacing, Drive and Narrow Units started (R66, R101, R136). -/
def startStepTimers (s : State) : State :=
  ((s.setSpacing { s.spacing with stepTimer := some s.time }).setDrive
    { s.drive with stepTimer := some s.time }).setNarrow { s.narrow with stepTimer := some s.time }

/-- The configuration written by a load, with its marks, and the load over (R182, R183). -/
def installConfig (image : List Byte) (s : State) : State :=
  (s.setConfig (some (configOf image))).setLoader { phase := .idle, reason := .none, clamped := clampedMarks image }

/-- The Road Tracker at a successful load: the hitch state from the line, the rig length, and the position kept to the
road (R11, R12, R20). -/
def roadAtLoad (s : State) : State :=
  s.setRoad
    { s.road with hitch := hitchOf s.hitchRaw, rigLength := s.cfg.rigLength (hitchOf s.hitchRaw),
                  posUm := onRoad s.cfg s.road.posUm }

/-- The HITCH level at a successful load (R172). -/
def hitchAtLoad (s : State) : State :=
  s.setSensors { s.sensors with hitchActive := s.hitchRaw, hitchTimer := none }

/-- The first beacon due time of a load or restart: the generator is seeded, then drawn (R31, R34). -/
def scheduleFirstBeacon (s : State) : State := scheduleBeacon s.cfg.beaconPeriod (seedJitter s)

/-- One record with no relation for each configured narrow (R154). -/
def idleNarrows (c : WorkingConfig) : List NarrowRecord := c.narrows.map (fun _ => .idle)

/-- What each block does at a successful load, but for the OBST level (R183). -/
def blocksAtLoad (s : State) : State :=
  let s1 := hitchAtLoad (roadAtLoad s)
  let s2 := s1.setSpacing { s1.spacing with convoyId := s1.ownId, memberIndex := 0 }
  let s3 := s2.setDrive { s2.drive with applied := .brakeHold, buffer := .brakeHold, updatePending := false }
  let s4 := s3.setNarrow { s3.narrow with records := idleNarrows s3.cfg }
  scheduleFirstBeacon (startStepTimers s4)

/-- The load succeeds (R183). -/
def succeedLoad (image : List Byte) (s : State) : State := takeObstLevel (blocksAtLoad (installConfig image s))

/-- The load that has passed its checks succeeds (R183). -/
def loadSuccess (s : State) : State :=
  match s.loader.phase with
  | .ended image none => succeedLoad image s
  | _ => s

/-! ### Restart (R184) -/

/-- A restart reloads: the lockout cause is CONFIG, or a load is in progress (R184, R185). -/
def State.restartReloads (s : State) : Bool := s.loading || decide (s.holds.lockout = .config)

/-- R46. The jitter generator is reseeded by the load or the restart that schedules the first beacon. A completed frame
that no RECEIVED_FRAME has judged yet goes with the receive buffer, without checks or counting (DESIGN CHOICE, log entry
39). -/
def AirPort.restarted (a : AirPort) : AirPort :=
  { a with reception := .closed, transmitter := .idle, rotation := [.object, .ask, .beacon], sequence := 0,
           firstCount := 4, beaconNow := false, beaconDue := false, beaconTimer := none, sample := none,
           clash := false }

/-- R83, R99. The step timer is started by the load or the restart that does not reload. -/
def SpacingUnit.restarted (ownId : Nat) : SpacingUnit := { SpacingUnit.powerOn with convoyId := ownId }

/-- R115. -/
def DriveUnit.restarted : DriveUnit :=
  { DriveUnit.powerOn with buffer := .brakeHold, applied := .brakeHold }

/-- R154. -/
def NarrowUnit.restarted (n : NarrowUnit) : NarrowUnit :=
  { n with records := n.records.map (fun _ => .idle), queue := [], stepTimer := none }

/-- R168. The width of the last valid throttle pulse is kept (log entry 21). -/
def Handset.restarted (h : Handset) : Handset :=
  { Handset.powerOn with lastWidth := h.lastWidth, resetLock := true }

/-- Every block at its restart values, whether or not the restart reloads (R184). -/
def restartBlocks (s : State) : State :=
  { s with
    road := { s.road with turnSpacing := false, turnNarrow := false }
    air := s.air.restarted
    peers := { records := [], sweepTimer := s.time }
    spacing := .restarted s.ownId
    drive := .restarted
    holds := .empty
    narrow := s.narrow.restarted
    handset := s.handset.restarted
    order := .initial
    service := .idle }

/-- A restart that reloads: a new load begins at the first address (R184, R185). -/
def restartReload (s : State) : State :=
  (restartBlocks s).setLoader { s.loader with phase := .reading [] s.time, reason := .loading }

/-- A restart that does not reload: the mode is PARKED at once (R184). -/
def restartKeeping (s : State) : State := takeObstLevel (scheduleFirstBeacon (startStepTimers (restartBlocks s)))

/-- A restart request taken (R184). -/
def restart (s : State) : State := if s.restartReloads then restartReload s else restartKeeping s

end Sys2Proof.Machine
end

