-- ==== Sys2Proof/Machine/Service.lean ====
section
/-!
DEFINITION. The Service Line (section 11.4): the words, the requests and their responses, and the text of a response.
-/

namespace Sys2Proof.Machine

/-! ### Text (R188) -/

/-- The text of a value: numbers are decimal, an absent value is a minus sign alone, yes-or-no values are YES or NO. -/
def FieldValue.text : FieldValue → String
  | .number n => toString n
  | .absent => "-"
  | .yesNo true => "YES"
  | .yesNo false => "NO"
  | .word w => w
  | .tagged w n => w ++ ":" ++ toString n

/-- A field is a name, an equals sign and a value. -/
def LineField.text (f : LineField) : String := f.name ++ "=" ++ f.value.text

/-- The text of a line, without its carriage return and line feed: fields separated by single spaces. -/
def ServiceText.text : ServiceText → String
  | .ok => "OK"
  | .err => "ERR"
  | .finish => "END"
  | .fields fs => String.intercalate " " (fs.map LineField.text)

/-- A field with a number. -/
def numField (name : String) (n : Int) : LineField := { name, value := .number n }

/-- A field with a name of the data book. -/
def wordField (name w : String) : LineField := { name, value := .word w }

/-- A yes-or-no field. -/
def yesNoField (name : String) (b : Bool) : LineField := { name, value := .yesNo b }

/-- A field with an absent value. -/
def absentField (name : String) : LineField := { name, value := .absent }

/-! ### Names as in the data book (R188) -/

def Mode.name : Mode → String
  | .start => "START"
  | .parked => "PARKED"
  | .head => "HEAD"
  | .follow => "FOLLOW"
  | .wait => "WAIT"
  | .halt => "HALT"
  | .lockout => "LOCKOUT"

def Role.name : Role → String
  | .parked => "PARKED"
  | .head => "HEAD"
  | .follow => "FOLLOW"

def LockoutCause.name : LockoutCause → String
  | .none => "NONE"
  | .config => "CONFIG"
  | .holdOverrun => "HOLD_OVERRUN"

def Direction.name : Direction → String
  | .up => "UP"
  | .down => "DOWN"

def Quality.name : Quality → String
  | .good => "GOOD"
  | .drift => "DRIFT"
  | .poor => "POOR"
  | .unknown => "UNKNOWN"

def Band.name : Band → String
  | .auto => "AUTO"
  | .drive => "DRIVE"
  | .stop => "STOP"
  | .absent => "ABSENT"

def OrderCode.name : OrderCode → String
  | .none => "NONE"
  | .stopAll => "STOP_ALL"
  | .resumeAll => "RESUME_ALL"

def Relation.name : Relation → String
  | .none => "NONE"
  | .asking => "ASKING"
  | .waiting => "WAITING"
  | .holding => "HOLDING"

def Phase.name : Phase → String
  | .deferred => "DEFERRED"
  | .contesting => "CONTESTING"

def HoldCause.name : HoldCause → String
  | .handsetStop => "HANDSET_STOP"
  | .obstruction => "OBSTRUCTION"
  | .linkLoss => "LINK_LOSS"
  | .convoyStop => "CONVOY_STOP"
  | .narrowWait => "NARROW_WAIT"

def LoadReason.name : LoadReason → String
  | .none => "NONE"
  | .loading => "LOADING"
  | .timeout => "TIMEOUT"
  | .version => "VERSION"
  | .length => "LENGTH"
  | .sum => "SUM"
  | .id => "ID"
  | .structure => "STRUCTURE"

def MarkerFault.name : MarkerFault → String
  | .code => "CODE"
  | .kind => "KIND"
  | .range => "RANGE"
  | .duplicate => "DUPLICATE"

/-- The check a narrow failed, by name (R132, R188). -/
def NarrowFault.name : NarrowFault → String
  | .order => "ORDER"
  | .range => "RANGE"
  | .overlap => "OVERLAP"
  | .spacing => "SPACING"

/-- DESIGN CHOICE (log entry 19): a station field is reported under its name in the book in capitals, as FIELD=W_AHEAD is. -/
def StationField.name : StationField → String
  | .lTractor => "L_TRACTOR"
  | .lTrailer => "L_TRAILER"
  | .eS => "E_S"
  | .readerOffset => "READER_OFFSET"
  | .gradeBiasEnable => "GRADE_BIAS_ENABLE"
  | .hitchPolarity => "HITCH_POLARITY"
  | .obstPolarity => "OBST_POLARITY"
  | .obstMode => "OBSTRUCTION_MODE"
  | .brakeFitted => "BRAKE_FITTED"
  | .amberFitted => "AMBER_FITTED"
  | .headFitted => "HEAD_FITTED"
  | .pB => "P_B"
  | .wAhead => "W_AHEAD"
  | .hLimit => "H"
  | .g0 => "G0"
  | .th => "TH"
  | .kg => "KG"
  | .vMax => "V_MAX"
  | .vCruise => "V_CRUISE"
  | .vCreep => "V_CREEP"
  | .aUp => "A_UP"
  | .aDn => "A_DN"
  | .gJoin => "G_JOIN"
  | .gSplit => "G_SPLIT"
  | .tSplit => "T_SPLIT"
  | .tPark => "T_PARK"
  | .kFf => "K_FF"
  | .kP => "K_P"
  | .kI => "K_I"

/-- The value of a station field of the working configuration, in the image's units (log entry 19). -/
def WorkingConfig.station (c : WorkingConfig) : StationField → Nat
  | .lTractor => c.lTractor
  | .lTrailer => c.lTrailer
  | .eS => c.eS
  | .readerOffset => c.readerOffset
  | .gradeBiasEnable => c.gradeBiasOn.toNat
  | .hitchPolarity => if c.hitchPolarity = .activeLow then 0 else 1
  | .obstPolarity => if c.obstPolarity = .activeLow then 0 else 1
  | .obstMode => if c.obstMode = .momentary then 0 else 1
  | .brakeFitted => c.brakeFitted.toNat
  | .amberFitted => c.amberFitted.toNat
  | .headFitted => c.headFitted.toNat
  | .pB => c.pB
  | .wAhead => c.wAhead
  | .hLimit => c.hLimit
  | .g0 => c.g0
  | .th => c.th
  | .kg => c.kg
  | .vMax => c.vMax
  | .vCruise => c.vCruise
  | .vCreep => c.vCreep
  | .aUp => c.aUp
  | .aDn => c.aDn
  | .gJoin => c.gJoin
  | .gSplit => c.gSplit
  | .tSplit => c.tSplit
  | .tPark => c.tPark
  | .kFf => c.kFf
  | .kP => c.kP
  | .kI => c.kI

/-! ### The lines of each response (R187, R188) -/

/-- OUT: the output state, with the duty after a colon for DRIVE and BRAKE (R112, R188). -/
def outField (o : BridgeOutput) : LineField :=
  { name := "OUT"
    value :=
      match o.state with
      | .drive => .tagged "DRIVE" o.duty.natAbs
      | .brake => .tagged "BRAKE" o.duty.natAbs
      | .brakeHold => .word "BRAKE_HOLD"
      | .coast => .word "COAST" }

/-- PRED and GAP (R67, R188). -/
def predecessorFields (p : Option Predecessor) : List LineField :=
  match p with
  | none => [numField "PRED" 0, absentField "GAP"]
  | some p => [numField "PRED" p.id, numField "GAP" p.gap]

/-- FLAGS: CLAMPED and CLASH where set, joined by a comma, or NONE (R188). -/
def flagsField (clamped clash : Bool) : LineField :=
  wordField "FLAGS"
    (if clamped then (if clash then "CLAMPED,CLASH" else "CLAMPED") else if clash then "CLASH" else "NONE")

/-- The CLAMPED flag: at least one field is marked (R182, log entry 33). -/
def State.clampedFlag (s : State) : Bool := !s.loader.clamped.isEmpty

/-- The STATUS line (R188). -/
def State.statusLine (s : State) : ServiceText :=
  .fields
    ([wordField "MODE" s.mode.name, wordField "ROLE" s.spacing.role.name, wordField "LOCKOUT" s.holds.lockout.name,
      numField "POS" s.front, wordField "DIR" s.road.direction.name, wordField "QUAL" s.road.quality.name,
      numField "VREF" s.spacing.vRef, numField "VMEAS" s.drive.vMeas, outField s.drive.applied,
      numField "DUTY" s.drive.applied.duty]
     ++ predecessorFields s.spacing.predecessor
     ++ [numField "CONVOY" s.spacing.convoyId, numField "INDEX" s.spacing.memberIndex, numField "RIG" s.road.rigLength,
         wordField "BAND" s.handset.band.name, numField "THROTTLE" s.handset.throttle,
         wordField "ORDER" s.order.code.name, numField "OSEQ" s.order.seq, numField "ORIGIN" s.order.origin,
         numField "HOP" s.order.hop, wordField "ISSUED" s.order.lastIssued.name,
         yesNoField "UNSYNC" s.order.unsynchronised, flagsField s.clampedFlag s.air.clash])

/-- The narrow part of a peer line (R188). -/
def narrowPartFields (p : Option NarrowPart) : List LineField :=
  match p with
  | none => [absentField "NARROW", absentField "REL", absentField "WAGE"]
  | some p => [numField "NARROW" p.index, wordField "REL" p.relation.name, numField "WAGE" p.waitAge]

/-- The order part of a peer line (R188). -/
def orderPartFields (p : Option OrderPart) : List LineField :=
  match p with
  | none => [absentField "ORDER", absentField "OSEQ", absentField "HOP"]
  | some p => [wordField "ORDER" p.code.name, numField "OSEQ" p.seq, numField "HOP" p.hop]

/-- A peer line (R61, R188). -/
def peerLine (now : Time) (r : PeerRecord) : ServiceText :=
  .fields
    ([numField "ID" r.id, numField "POS" r.position, wordField "DIR" r.direction.name,
      wordField "QUAL" r.quality.name, numField "SPEED" r.speed, yesNoField "BRK" r.braking,
      numField "RIG" r.rigLength, wordField "MODE" r.mode.name, numField "CONVOY" r.convoyId,
      numField "INDEX" r.memberIndex, numField "PERIOD" r.period]
     ++ narrowPartFields r.narrowPart
     ++ orderPartFields r.orderPart
     ++ [yesNoField "FIRST" r.first, numField "SEQ" r.lastSequence.toNat, numField "AGE" (r.age now),
         wordField "STATE" (if r.fresh now then "FRESH" else "STALE")])

/-- A hold line, its place counted from 1 at the top (R131, R188). -/
def holdLine (now : Time) (place : Nat) (r : HoldRecord) : ServiceText :=
  .fields
    [numField "PLACE" place, wordField "CAUSE" r.cause.name, numField "AGE" (elapsed now r.pushedAt),
     wordField "BEFORE" r.modeBefore.name, numField "VREF" r.vRefAtPush,
     wordField "STATE" (if r.released then "RELEASED" else "HELD"),
     match r.lostId with | none => absentField "LOST" | some id => numField "LOST" id]

/-- The hold lines, top first (R131). -/
def holdLines (now : Time) (stack : List HoldRecord) : List ServiceText :=
  (stack.zipIdx 1).map fun p => holdLine now p.2 p.1

/-- A narrow line (R153, R188). -/
def narrowLine (i : Nat) (e : NarrowEntry) (r : NarrowRecord) : ServiceText :=
  .fields
    [numField "NARROW" i, numField "LO" e.lo, numField "HI" e.hi, wordField "REL" r.relation.name,
     match r.phase with | none => absentField "PHASE" | some p => wordField "PHASE" p.name,
     numField "WAGE" r.waitAge, numField "ASKS" r.asksSent, yesNoField "INH" r.inherited]

/-- The narrow lines: one for each enabled narrow, in index order (R153). -/
def State.narrowLines (s : State) : List ServiceText :=
  s.cfg.narrowIndices.filterMap fun i => (s.cfg.enabledNarrow i).map fun e => narrowLine i e (s.narrowRecord i)

/-- A queue entry line (R153, R188). -/
def queueLine (now : Time) (e : AnswerEntry) : ServiceText :=
  .fields
    [numField "ASKER" e.askerId, numField "NARROW" e.narrow, numField "WAGE" e.askerWaitAge,
     numField "AGE" (elapsed now e.queuedAt), yesNoField "INHAND" e.inHand]

/-- A counter line (R188). -/
def counterLine (name : String) (n : Nat) : ServiceText := .fields [numField name n]

/-- The 22 counter lines in order (R188). -/
def counterLines (c : Counters) : List ServiceText :=
  [counterLine "LARGE_CORRECTION" c.largeCorrection, counterLine "UNKNOWN_MARKER" c.unknownMarker,
   counterLine "UNREADABLE_MARKER" c.unreadableMarker, counterLine "MALFORMED" c.malformed,
   counterLine "CRC_ERROR" c.crcError, counterLine "UNKNOWN_KIND" c.unknownKind, counterLine "ID_CLASH" c.idClash,
   counterLine "BEACON_DROPPED" c.beaconDropped, counterLine "ASK_DROPPED" c.askDropped,
   counterLine "ANSWER_WITHDRAWN" c.answerWithdrawn, counterLine "RADIO_TIMEOUT" c.radioTimeout,
   counterLine "OLD_SEQUENCE" c.oldSequence, counterLine "TABLE_FULL" c.tableFull, counterLine "CLOSE_IN" c.closeIn,
   counterLine "OVERSPEED" c.overspeed, counterLine "UNCLAIMED_ENTRY" c.unclaimedEntry,
   counterLine "LATE_OBJECTION" c.lateObjection, counterLine "NARROW_CONFLICT" c.narrowConflict,
   counterLine "ANSWER_DROPPED" c.answerDropped, counterLine "ANSWER_EXPIRED" c.answerExpired,
   counterLine "OBSTRUCTION_STOP" c.obstructionStop, counterLine "REQUEST_DROPPED" c.requestDropped]

/-- The load line (R188). -/
def loadLine (reason : LoadReason) : ServiceText :=
  .fields [yesNoField "LOADED" (decide (reason = .none)), wordField "REASON" reason.name]

/-- A station field line (R188). -/
def stationLine (c : WorkingConfig) (clamped : List ConfigField) (f : StationField) : ServiceText :=
  .fields
    [wordField "FIELD" f.name, numField "VALUE" (c.station f),
     yesNoField "CLAMPED" (clamped.any (fun x => decide (x = .station f)))]

/-- The state of an entry: ENABLED, or DISABLED with its reason after a colon (R188). -/
def entryState (reason : Option String) : LineField :=
  wordField "STATE" (match reason with | none => "ENABLED" | some r => "DISABLED:" ++ r)

/-- DESIGN CHOICE (log entry 19): the kind of a marker by name; a kind byte above 2 names no kind and reads as absent. -/
def kindField (kind : Nat) : LineField :=
  if kind = 0 then wordField "KIND" "POSITION" else if kind ≤ 2 then wordField "KIND" "TURN" else absentField "KIND"

/-- A marker line (R188), counted from 0 (DEDUCED, log entry 20). -/
def markerLine (i : Nat) (m : MarkerEntry) : ServiceText :=
  .fields
    [numField "MARKER" i, numField "CODE" m.code, numField "POS" m.position, kindField m.kind,
     entryState (m.disabled.map MarkerFault.name)]

/-- A narrow entry line (R188). -/
def entryLine (i : Nat) (e : NarrowEntry) : ServiceText :=
  .fields [numField "ENTRY" i, numField "LO" e.lo, numField "HI" e.hi, entryState (e.disabled.map NarrowFault.name)]

/-- The lines of the CONFIG response after the load line: only while a working configuration exists (R188). -/
def State.configLines (s : State) : List ServiceText :=
  match s.config with
  | none => []
  | some c =>
    stationFields.map (stationLine c s.loader.clamped)
    ++ (c.markers.zipIdx.map fun p => markerLine p.2 p.1)
    ++ (c.narrows.zipIdx.map fun p => entryLine p.2 p.1)

/-- The lines of a response, from one reading (R187). -/
def State.responseLines (s : State) (r : Request) : List ServiceText :=
  match r with
  | .status => [s.statusLine, .finish]
  | .peers => s.peers.records.map (peerLine s.time) ++ [.finish]
  | .holds => holdLines s.time s.holds.stack ++ [.finish]
  | .narrows => s.narrowLines ++ s.narrow.queue.map (queueLine s.time) ++ [.finish]
  | .counters => counterLines s.counters ++ [.finish]
  | .config => loadLine s.loader.reason :: s.configLines ++ [.finish]
  | .clear | .resume | .restart => [.ok, .finish]
  | .unknown => [.err]

/-! ### Requests (R186, R187) -/

/-- The effect of a request when it is taken (R187). RESTART has none until its response ends. -/
def requestEffect (r : Request) (s : State) : State :=
  match r with
  | .clear => s.setCounters .zero
  | .resume => takeResumePending (setResumePending s)
  | .status | .peers | .holds | .narrows | .counters | .config | .restart | .unknown => s

/-- A request taken: its response begins with one reading of the state, and its effect follows (R187). -/
def takeRequest (r : Request) (s : State) : State :=
  requestEffect r
    (s.setService { s.service with response := some { request := r, lines := s.responseLines r } })

/-- A request arrives: taken at once, pending behind the response being sent, or dropped and counted (R186, log entry
18). -/
def requestArrives (r : Request) (s : State) : State :=
  match s.service.response, s.service.pendingRequest with
  | none, none => takeRequest r s
  | some _, none => s.setService { s.service with pendingRequest := some r }
  | _, some _ => s.setCounters { s.counters with requestDropped := bump s.counters.requestDropped }

/-- The characters of an ASCII word. -/
def asciiWord (w : List Char) : List Byte := w.map fun c => byteOf c.toNat

/-- The request a completed word of at most 16 characters names; letters are matched exactly (R186, R187). -/
def requestOfWord (w : List Byte) : Request :=
  if w = asciiWord ['S', 'T', 'A', 'T', 'U', 'S'] then .status
  else if w = asciiWord ['P', 'E', 'E', 'R', 'S'] then .peers
  else if w = asciiWord ['H', 'O', 'L', 'D', 'S'] then .holds
  else if w = asciiWord ['N', 'A', 'R', 'R', 'O', 'W', 'S'] then .narrows
  else if w = asciiWord ['C', 'O', 'U', 'N', 'T', 'E', 'R', 'S'] then .counters
  else if w = asciiWord ['C', 'O', 'N', 'F', 'I', 'G'] then .config
  else if w = asciiWord ['C', 'L', 'E', 'A', 'R'] then .clear
  else if w = asciiWord ['R', 'E', 'S', 'U', 'M', 'E'] then .resume
  else if w = asciiWord ['R', 'E', 'S', 'T', 'A', 'R', 'T'] then .restart
  else .unknown

/-- The request a completed word is: one of more than 16 characters is unknown (R186). -/
def Service.completed (l : Service) : Request := if l.overlong then .unknown else requestOfWord l.word

/-- A character added to the word (R186). -/
def Service.collect (l : Service) (c : Byte) : Service :=
  if l.word.length < 16 then { l with word := l.word ++ [c] } else { l with overlong := true }

/-- A character on the service line (R186). A carriage return ends the word; a line feed, and a carriage return with no
characters before it, are ignored. -/
def receivedCharacter (c : Byte) (s : State) : State :=
  if c = 10#8 then s
  else if c = 13#8 then
    if s.service.word = [] then s
    else requestArrives s.service.completed (s.setService { s.service with word := [], overlong := false })
  else s.setService (s.service.collect c)

/-- A response has finished: a RESTART response gives its restart request, and otherwise the pending request, if any, is
taken (R186). -/
def responseEnd (s : State) : State :=
  match s.service.response with
  | none => s
  | some r =>
    if r.request = .restart then restart s
    else
      match s.service.pendingRequest with
      | none => s.setService { s.service with response := none }
      | some q => takeRequest q (s.setService { s.service with response := none, pendingRequest := none })

end Sys2Proof.Machine
end

