-- ==== Sys2Proof/Machine/Events.lean ====
section
/-!
DEFINITION. The meaning of every command. A command that stands for something that comes about inside the part (a timer
expires, a window is reached, a frame is complete) has its effect when that has come about, and changes nothing otherwise
(log entry 4).
-/

namespace Sys2Proof.Machine

/-! ### When the part's own events have come about -/

/-- A 20 ms step is due: its timer runs and has expired, outside START and LOCKOUT with cause CONFIG (R66, R101, R136). -/
def State.stepDue (s : State) (timer : Running) : Bool := s.validConfig && timer.ranFor s.time 20

/-- R180. -/
def State.loadFailed (s : State) : Bool :=
  match s.loader.phase with
  | .ended _ (some _) => true
  | _ => false

/-- R183. -/
def State.loadPassed (s : State) : Bool :=
  match s.loader.phase with
  | .ended _ none => true
  | _ => false

/-- R25. -/
def State.frameComplete (s : State) : Bool :=
  match s.air.reception with
  | .complete _ => true
  | _ => false

/-- R36. -/
def State.grantDue (s : State) : Bool := decide (s.air.transmitter = .idle) && s.nextClass.isSome

/-- R57. -/
def State.sweepDue (s : State) : Bool := decide (100 ≤ elapsed s.time s.peers.sweepTimer)

/-- R142. -/
def State.askTime (s : State) : Option Nat := s.findNarrow (fun r => r.askTimeReached s.time)

/-- R143, R152. -/
def State.windowTime (s : State) : Option Nat :=
  if s.mode = .lockout then none else s.findNarrow (fun r => r.windowReached s.time)

/-- R151. -/
def State.answerDue (s : State) : Bool := s.narrow.queue.any (fun e => e.expired s.time s.cfg.wAns)

/-- R170. -/
def State.hitchDue (s : State) : Bool := s.conditioning && s.sensors.hitchTimer.ranFor s.time 200

/-- R171. -/
def State.obstDue (s : State) : Bool := s.conditioning && s.sensors.obstTimer.ranFor s.time 200

/-- R176: a lamp line does not stand as the timebase now gives it. -/
def State.lampBoundary (s : State) : Bool := decide (s.lamps ≠ s.lampsNow)

/-- An event that has come about has its effect; otherwise nothing changes. -/
def whenDue (due : Bool) (effect : State → State) (s : State) : Host.Outcome State Fault Refusal :=
  if due then done (effect s) else .next s

/-! ### Power-on, loads and restart -/

/-- POWER_ON (R130). -/
def execPowerOn (s : State) : Host.Outcome State Fault Refusal := done (powerOn s)

/-- LOAD_BYTE_TIMEOUT (R180). -/
def execLoadByteTimeout (s : State) : Host.Outcome State Fault Refusal := whenDue s.byteOverdue loadByteTimeout s

/-- LOAD_FAILURE (R181). -/
def execLoadFailure (s : State) : Host.Outcome State Fault Refusal := whenDue s.loadFailed loadFailure s

/-- LOAD_SUCCESS (R183). -/
def execLoadSuccess (s : State) : Host.Outcome State Fault Refusal := whenDue s.loadPassed loadSuccess s

/-- RESTART (R184). -/
def execRestart (s : State) : Host.Outcome State Fault Refusal := done (restart s)

/-! ### Road -/

/-- ENCODER_EDGE (R3, R4, R5, R102). -/
def execEncoderEdge (s : State) : Host.Outcome State Fault Refusal := done (encoderEdge s)

/-- MARKER_CODE (R5 to R10). -/
def execMarkerCode (code : Byte) (s : State) : Host.Outcome State Fault Refusal := done (markerCode code.toNat s)

/-- HITCH_EDGE (R169, R170). -/
def execHitchEdge (level : Level) (s : State) : Host.Outcome State Fault Refusal := done (hitchEdge level s)

/-- HITCH_DEBOUNCE_EXPIRY (R170). -/
def execHitchDebounceExpiry (s : State) : Host.Outcome State Fault Refusal := whenDue s.hitchDue hitchExpiry s

/-- OBST_EDGE (R169, R171). -/
def execObstEdge (level : Level) (s : State) : Host.Outcome State Fault Refusal := done (obstEdge level s)

/-- OBST_DEBOUNCE_EXPIRY (R171). -/
def execObstDebounceExpiry (s : State) : Host.Outcome State Fault Refusal := whenDue s.obstDue obstExpiry s

/-! ### Air Port -/

/-- SYNC (R25, R26). -/
def execSync (s : State) : Host.Outcome State Fault Refusal := done (syncPulse s)

/-- RECEIVED_FRAME (R27). -/
def execReceivedFrame (s : State) : Host.Outcome State Fault Refusal := whenDue s.frameComplete receiveFrame s

/-- FRAME_TIMEOUT (R25). -/
def execFrameTimeout (s : State) : Host.Outcome State Fault Refusal := whenDue s.frameOverdue frameTimeout s

/-- TRANSMIT_REPORT (R21, R44): a byte of value 1 from the module (DEDUCED, log entry 24). -/
def execTransmitReport (s : State) : Host.Outcome State Fault Refusal := done (moduleByte 1#8 s)

/-- BEACON_DUE (R32). -/
def execBeaconDue (s : State) : Host.Outcome State Fault Refusal := whenDue s.beaconTimeReached beaconDue s

/-- ARBITER_GRANT (R36). -/
def execArbiterGrant (s : State) : Host.Outcome State Fault Refusal := whenDue s.grantDue arbiterGrant s

/-- BUSY_CHANGE (R37, R38). -/
def execBusyChange (asserted : Bool) (s : State) : Host.Outcome State Fault Refusal := done (busyChange asserted s)

/-- BUSY_ATTEMPT_TIMEOUT (R38). -/
def execBusyAttemptTimeout (s : State) : Host.Outcome State Fault Refusal := whenDue s.busyHeld busyAttemptTimeout s

/-- BACKOFF_END (R37). -/
def execBackoffEnd (s : State) : Host.Outcome State Fault Refusal := whenDue s.backoffOver backoffEnd s

/-- FRAME_HANDED (R44; from outside, log entry 14). -/
def execFrameHanded (s : State) : Host.Outcome State Fault Refusal := done (frameHanded s)

/-- RADIO_TIMEOUT (R44). -/
def execRadioTimeout (s : State) : Host.Outcome State Fault Refusal := whenDue s.reportOverdue radioTimeout s

/-! ### Steps -/

/-- SPACING_STEP (R66). -/
def execSpacingStep (s : State) : Host.Outcome State Fault Refusal :=
  whenDue (s.stepDue s.spacing.stepTimer)
    (fun s => spacingStep (s.setSpacing { s.spacing with stepTimer := s.spacing.stepTimer.again 20 })) s

/-- DRIVE_STEP (R101). -/
def execDriveStep (s : State) : Host.Outcome State Fault Refusal :=
  whenDue (s.stepDue s.drive.stepTimer)
    (fun s => driveStep (s.setDrive { s.drive with stepTimer := s.drive.stepTimer.again 20 })) s

/-- PWM_PERIOD_END (R107). -/
def execPwmPeriodEnd (s : State) : Host.Outcome State Fault Refusal := done (pwmPeriodEnd s)

/-- SWEEP (R57). -/
def execSweep (s : State) : Host.Outcome State Fault Refusal := whenDue s.sweepDue sweep s

/-- NARROW_STEP (R136). -/
def execNarrowStep (s : State) : Host.Outcome State Fault Refusal :=
  whenDue (s.stepDue s.narrow.stepTimer)
    (fun s => narrowStep (s.setNarrow { s.narrow with stepTimer := s.narrow.stepTimer.again 20 })) s

/-! ### Narrow Unit timers -/

/-- ASK_DUE (R142), in LOCKOUT too (DEDUCED, log entry 25). -/
def execAskDue (s : State) : Host.Outcome State Fault Refusal :=
  match s.askTime with
  | none => .next s
  | some i => done (askDue i s)

/-- ANSWER_WINDOW_END (R143). -/
def execAnswerWindowEnd (s : State) : Host.Outcome State Fault Refusal :=
  match s.windowTime with
  | none => .next s
  | some i => done (enterHolding i false s)

/-- ANSWER_EXPIRY (R151). -/
def execAnswerExpiry (s : State) : Host.Outcome State Fault Refusal := whenDue s.answerDue expireAnswer s

/-- WAIT_AGE_EXPIRY (R149). -/
def execWaitAgeExpiry (s : State) : Host.Outcome State Fault Refusal :=
  whenDue (s.narrow.waitAgeTimer.ranFor s.time 100) waitAgeExpiry s

/-! ### Handset -/

/-- THROTTLE_PULSE (R155, R156). -/
def execThrottlePulse (width : Nat) (s : State) : Host.Outcome State Fault Refusal := done (throttlePulse width s)

/-- MODE_PULSE (R155, R157). -/
def execModePulse (width : Nat) (s : State) : Host.Outcome State Fault Refusal := done (modePulse width s)

/-- CHANNEL_ABSENT (R155). -/
def execChannelAbsent (channel : Channel) (s : State) : Host.Outcome State Fault Refusal :=
  whenDue (s.channelSilent channel) (channelAbsent channel) s

/-- STOP_TIMER_EXPIRY (R159). -/
def execStopTimerExpiry (s : State) : Host.Outcome State Fault Refusal := whenDue s.stopHeldLong stopTimerExpiry s

/-- RESET_GESTURE (R162): the decoder requests a restart, which is taken as it arrives (R184; DEDUCED, log entry 17). -/
def execResetGesture (s : State) : Host.Outcome State Fault Refusal := whenDue s.resetHeldLong restart s

/-! ### Lamps -/

/-- LAMP_TIMEBASE_BOUNDARY (R176): the lines take what the timebase now gives. -/
def execLampTimebaseBoundary (s : State) : Host.Outcome State Fault Refusal := done s

/-! ### Service Line -/

/-- STATUS (R187). -/
def execStatus (s : State) : Host.Outcome State Fault Refusal := done (requestArrives .status s)

/-- PEERS (R61, R187). -/
def execPeers (s : State) : Host.Outcome State Fault Refusal := done (requestArrives .peers s)

/-- HOLDS (R131, R187). -/
def execHolds (s : State) : Host.Outcome State Fault Refusal := done (requestArrives .holds s)

/-- NARROWS (R153, R187). -/
def execNarrows (s : State) : Host.Outcome State Fault Refusal := done (requestArrives .narrows s)

/-- COUNTERS (R187). -/
def execCounters (s : State) : Host.Outcome State Fault Refusal := done (requestArrives .counters s)

/-- CONFIG (R187, R188). -/
def execConfig (s : State) : Host.Outcome State Fault Refusal := done (requestArrives .config s)

/-- CLEAR (R187). -/
def execClear (s : State) : Host.Outcome State Fault Refusal := done (requestArrives .clear s)

/-- RESUME (R161, R187). -/
def execResume (s : State) : Host.Outcome State Fault Refusal := done (requestArrives .resume s)

/-- RESTART_REQUEST (R187). -/
def execRestartRequest (s : State) : Host.Outcome State Fault Refusal := done (requestArrives .restart s)

/-- UNKNOWN_WORD (R187). -/
def execUnknownWord (s : State) : Host.Outcome State Fault Refusal := done (requestArrives .unknown s)

/-- RESPONSE_END (R186; from outside, log entry 14). -/
def execResponseEnd (s : State) : Host.Outcome State Fault Refusal := done (responseEnd s)

/-! ### Bytes and characters -/

/-- RECEIVED_FRAME_BYTE (R21, R25). -/
def execReceivedFrameByte (byte : Byte) (s : State) : Host.Outcome State Fault Refusal := done (moduleByte byte s)

/-- IMAGE_BYTE (R180). -/
def execImageByte (byte : Byte) (s : State) : Host.Outcome State Fault Refusal := done (imageByte byte s)

/-- RECEIVED_CHARACTER (R186). -/
def execReceivedCharacter (char : Byte) (s : State) : Host.Outcome State Fault Refusal := done (receivedCharacter char s)

end Sys2Proof.Machine
end

