-- ==== Sys2Proof/Machine/Clock.lean ====
section
/-!
DEFINITION. What the part does when no command waits: its own events that have come about, one at a time, and else a
millisecond of station time.
-/

namespace Sys2Proof.Machine

/-- A command named when its event has come about. -/
def eventIf (due : Bool) (c : Instr) : List Instr := if due then [c] else []

/-- The part's own events that have come about at this moment, each with the same test as its command's. A PWM period is
50 µs, shorter than the clock's resolution, so its end comes in the millisecond of the write (log entry 13). -/
def State.ownEvents (s : State) : List Instr :=
  eventIf s.byteOverdue .loadByteTimeout
  ++ eventIf s.loadFailed .loadFailure
  ++ eventIf s.loadPassed .loadSuccess
  ++ eventIf s.hitchDue .hitchDebounceExpiry
  ++ eventIf s.obstDue .obstDebounceExpiry
  ++ eventIf s.frameComplete .receivedFrame
  ++ eventIf s.frameOverdue .frameTimeout
  ++ eventIf s.beaconTimeReached .beaconDue
  ++ eventIf s.grantDue .arbiterGrant
  ++ eventIf s.busyHeld .busyAttemptTimeout
  ++ eventIf s.backoffOver .backoffEnd
  ++ eventIf s.reportOverdue .radioTimeout
  ++ eventIf (s.stepDue s.spacing.stepTimer) .spacingStep
  ++ eventIf (s.stepDue s.drive.stepTimer) .driveStep
  ++ eventIf s.drive.updatePending .pwmPeriodEnd
  ++ eventIf s.sweepDue .sweep
  ++ eventIf (s.stepDue s.narrow.stepTimer) .narrowStep
  ++ eventIf s.askTime.isSome .askDue
  ++ eventIf s.windowTime.isSome .answerWindowEnd
  ++ eventIf s.answerDue .answerExpiry
  ++ eventIf (s.narrow.waitAgeTimer.ranFor s.time 100) .waitAgeExpiry
  ++ eventIf (s.channelSilent .throttle) (.channelAbsent .throttle)
  ++ eventIf (s.channelSilent .mode) (.channelAbsent .mode)
  ++ eventIf s.stopHeldLong .stopTimerExpiry
  ++ eventIf s.resetHeldLong .resetGesture
  ++ eventIf s.lampBoundary .lampTimebaseBoundary

/-- The own event taken next: the only one, or, of several, the one a free choice picks (log entry 3). -/
def State.ownEvent (s : State) : Option Instr :=
  match s.ownEvents with
  | [] => none
  | [e] => some e
  | e :: es => some ((e :: es).getD (Config.freeChoice s.freeCount % (es.length + 1)) e)

/-- The state once the own event has been chosen: a choice among several is counted. -/
def State.afterChoice (s : State) : State :=
  if 2 ≤ s.ownEvents.length then s.setFreeCount (s.freeCount + 1) else s

/-- One millisecond (00_scope section 5, R176). -/
def tick (s : State) : State :=
  (s.setTime (s.time + 1#24)).setLamps { s.lamps with timebase := (s.lamps.timebase + 1) % 1000 }

end Sys2Proof.Machine
end

