-- ==== Sys2Proof/Machine/Dispatch.lean ====
section
/-!
DEFINITION. The meaning of each command, one direct call each.
-/

namespace Sys2Proof.Machine

def exec (i : Instr) (s : State) : Host.Outcome State Fault Refusal :=
  match i with
  | .powerOn => Sys2Proof.Machine.execPowerOn s
  | .loadByteTimeout => Sys2Proof.Machine.execLoadByteTimeout s
  | .loadFailure => Sys2Proof.Machine.execLoadFailure s
  | .loadSuccess => Sys2Proof.Machine.execLoadSuccess s
  | .restart => Sys2Proof.Machine.execRestart s
  | .encoderEdge => Sys2Proof.Machine.execEncoderEdge s
  | .markerCode code => Sys2Proof.Machine.execMarkerCode code s
  | .hitchEdge level => Sys2Proof.Machine.execHitchEdge level s
  | .hitchDebounceExpiry => Sys2Proof.Machine.execHitchDebounceExpiry s
  | .obstEdge level => Sys2Proof.Machine.execObstEdge level s
  | .obstDebounceExpiry => Sys2Proof.Machine.execObstDebounceExpiry s
  | .sync => Sys2Proof.Machine.execSync s
  | .receivedFrame => Sys2Proof.Machine.execReceivedFrame s
  | .frameTimeout => Sys2Proof.Machine.execFrameTimeout s
  | .transmitReport => Sys2Proof.Machine.execTransmitReport s
  | .beaconDue => Sys2Proof.Machine.execBeaconDue s
  | .arbiterGrant => Sys2Proof.Machine.execArbiterGrant s
  | .busyChange asserted => Sys2Proof.Machine.execBusyChange asserted s
  | .busyAttemptTimeout => Sys2Proof.Machine.execBusyAttemptTimeout s
  | .backoffEnd => Sys2Proof.Machine.execBackoffEnd s
  | .frameHanded => Sys2Proof.Machine.execFrameHanded s
  | .radioTimeout => Sys2Proof.Machine.execRadioTimeout s
  | .spacingStep => Sys2Proof.Machine.execSpacingStep s
  | .driveStep => Sys2Proof.Machine.execDriveStep s
  | .pwmPeriodEnd => Sys2Proof.Machine.execPwmPeriodEnd s
  | .sweep => Sys2Proof.Machine.execSweep s
  | .narrowStep => Sys2Proof.Machine.execNarrowStep s
  | .askDue => Sys2Proof.Machine.execAskDue s
  | .answerWindowEnd => Sys2Proof.Machine.execAnswerWindowEnd s
  | .answerExpiry => Sys2Proof.Machine.execAnswerExpiry s
  | .waitAgeExpiry => Sys2Proof.Machine.execWaitAgeExpiry s
  | .throttlePulse width => Sys2Proof.Machine.execThrottlePulse width s
  | .modePulse width => Sys2Proof.Machine.execModePulse width s
  | .channelAbsent channel => Sys2Proof.Machine.execChannelAbsent channel s
  | .stopTimerExpiry => Sys2Proof.Machine.execStopTimerExpiry s
  | .resetGesture => Sys2Proof.Machine.execResetGesture s
  | .lampTimebaseBoundary => Sys2Proof.Machine.execLampTimebaseBoundary s
  | .status => Sys2Proof.Machine.execStatus s
  | .peers => Sys2Proof.Machine.execPeers s
  | .holds => Sys2Proof.Machine.execHolds s
  | .narrows => Sys2Proof.Machine.execNarrows s
  | .counters => Sys2Proof.Machine.execCounters s
  | .config => Sys2Proof.Machine.execConfig s
  | .clear => Sys2Proof.Machine.execClear s
  | .resume => Sys2Proof.Machine.execResume s
  | .restartRequest => Sys2Proof.Machine.execRestartRequest s
  | .unknownWord => Sys2Proof.Machine.execUnknownWord s
  | .responseEnd => Sys2Proof.Machine.execResponseEnd s
  | .receivedFrameByte byte => Sys2Proof.Machine.execReceivedFrameByte byte s
  | .imageByte byte => Sys2Proof.Machine.execImageByte byte s
  | .receivedCharacter char => Sys2Proof.Machine.execReceivedCharacter char s

end Sys2Proof.Machine
end

