-- ==== Sys2Proof/Safety.lean ====
section
/-!
DEFINITION. What a sound station is: the statements of the data book that hold of the state at every moment, one predicate
each, in the terms the claims use. Each is to hold after power-on and to be kept by every step.
-/

namespace Sys2Proof.Machine

/-- R117: at most four hold records, and no two of the same cause. -/
abbrev State.StackSound (s : State) : Prop :=
  s.holds.stack.length ≤ 4 ∧ (s.holds.stack.map (fun r => r.cause)).Nodup

/-- R50, R63: at most 16 records, in ascending position with ties in ascending id, no id twice and none own; and no record
while a load is in progress. -/
abbrev State.TableSound (s : State) : Prop :=
  s.peers.records.length ≤ 16 ∧
  s.peers.records.Pairwise
    (fun a b => a.position < b.position ∨ (a.position = b.position ∧ a.id < b.id)) ∧
  (s.peers.records.map (fun r => r.id)).Nodup ∧
  (∀ r ∈ s.peers.records, r.id ≠ s.ownId) ∧
  (s.loading = true → s.peers.records = [])

/-- R150: at most four answers, and no two with the same asker and narrow. -/
abbrev State.AnswersSound (s : State) : Prop :=
  s.narrow.queue.length ≤ 4 ∧ (s.narrow.queue.map (fun e => (e.askerId, e.narrow))).Nodup

/-- R2: the position estimate lies on the road. -/
abbrev State.PositionSound (s : State) : Prop := s.road.posUm ≤ s.cfg.lRoad * 1000

/-- An output the bridge can take: a duty within its range, of the sign its state has (R100, section 6.6). -/
abbrev BridgeOutput.Sound (o : BridgeOutput) : Prop :=
  -1023 ≤ o.duty ∧ o.duty ≤ 1023 ∧ (o.state = .drive → 0 < o.duty) ∧ (o.state = .brake → o.duty < 0) ∧
  (o.state = .brakeHold → o.duty = 0) ∧ (o.state = .coast → o.duty = 0)

/-- R100: the Drive Unit's values lie in their ranges. -/
abbrev State.DriveSound (s : State) : Prop :=
  s.drive.applied.Sound ∧ s.drive.buffer.Sound ∧ s.drive.vMeas ≤ 1023 ∧ s.drive.edgeCount ≤ 65535 ∧
  -65535 ≤ s.drive.integral ∧ s.drive.integral ≤ 65535

/-- R84, R96: V_ref lies between 0 and V_max, and it is 0 in START. -/
abbrev State.SpeedSound (s : State) : Prop := s.spacing.vRef ≤ s.cfg.vMax ∧ (s.loading = true → s.spacing.vRef = 0)

/-- R149: no wait age exceeds 255. -/
abbrev State.WaitAgesSound (s : State) : Prop := ∀ r ∈ s.narrow.records, r.waitAge ≤ 255

/-- R30: the jitter generator's state is never 0. -/
abbrev State.JitterSound (s : State) : Prop := s.air.jitter ≠ 0#16

/-- R36: the rotation is the three classes in an order. -/
abbrev State.RotationSound (s : State) : Prop :=
  s.air.rotation.Nodup ∧ s.air.rotation.length = 3

/-- R71: once a configuration has been loaded, the member index is at most 15, and it is 0 exactly when the convoy id is
own id. -/
abbrev State.MembershipSound (s : State) : Prop :=
  s.config.isSome = true →
    s.spacing.memberIndex ≤ 15 ∧ (s.spacing.memberIndex = 0 ↔ s.spacing.convoyId = s.ownId)

/-- R163: the order hop never exceeds 15. -/
abbrev State.HopSound (s : State) : Prop := s.order.hop ≤ 15

/-- 00_scope section 5: every event counter saturates at 65,535. -/
abbrev State.CountersSound (s : State) : Prop :=
  s.counters.largeCorrection ≤ 65535 ∧ s.counters.unknownMarker ≤ 65535 ∧ s.counters.unreadableMarker ≤ 65535 ∧
  s.counters.malformed ≤ 65535 ∧ s.counters.crcError ≤ 65535 ∧ s.counters.unknownKind ≤ 65535 ∧
  s.counters.idClash ≤ 65535 ∧ s.counters.beaconDropped ≤ 65535 ∧ s.counters.askDropped ≤ 65535 ∧
  s.counters.answerWithdrawn ≤ 65535 ∧ s.counters.radioTimeout ≤ 65535 ∧ s.counters.oldSequence ≤ 65535 ∧
  s.counters.tableFull ≤ 65535 ∧ s.counters.closeIn ≤ 65535 ∧ s.counters.overspeed ≤ 65535 ∧
  s.counters.unclaimedEntry ≤ 65535 ∧ s.counters.lateObjection ≤ 65535 ∧ s.counters.narrowConflict ≤ 65535 ∧
  s.counters.answerDropped ≤ 65535 ∧ s.counters.answerExpired ≤ 65535 ∧ s.counters.obstructionStop ≤ 65535 ∧
  s.counters.requestDropped ≤ 65535

/-- The bridge brakes or holds, and no other output waits for the next period end. -/
abbrev State.Braked (s : State) : Prop :=
  (s.drive.applied.state = .brake ∨ s.drive.applied.state = .brakeHold) ∧ s.drive.updatePending = false

/-- R109, R175: an unreleased OBSTRUCTION record keeps the kill flag set and the rig braked; outside LOCKOUT the kill flag
stands for no other reason, and in START it is clear. -/
abbrev State.KillSound (s : State) : Prop :=
  (s.holds.unreleased .obstruction = true → s.drive.obstructionKill = true ∧ s.Braked) ∧
  (s.drive.obstructionKill = true → s.holds.lockout = .none → s.holds.unreleased .obstruction = true) ∧
  (s.loading = true → s.drive.obstructionKill = false)

/-- R110: in LOCKOUT the bridge brakes or holds throughout. -/
abbrev State.LockoutSound (s : State) : Prop := s.mode = .lockout → s.Braked

/-- R178: a working configuration is held exactly when the mode is neither START nor LOCKOUT with cause CONFIG, and no
lockout cause stands in START (R184). -/
abbrev State.ConfigSound (s : State) : Prop :=
  (s.config = none ↔ s.loading = true ∨ s.holds.lockout = .config) ∧ (s.loading = true → s.holds.lockout = .none)

/-- The spacing of R132 between enabled narrows. -/
abbrev WorkingConfig.NarrowsSpaced (c : WorkingConfig) : Prop :=
  c.narrows.Pairwise
    (fun a b => a.disabled = none → b.disabled = none →
      a.hi + (c.dClaim + c.dStop + 4095) ≤ b.lo ∨ b.hi + (c.dClaim + c.dStop + 4095) ≤ a.lo)

/-- What the loader's checks and clamps give the Narrow Unit: enabled narrows have their bounds in order and stand apart,
and the longest rig is 4,095 mm (R12, R132). -/
abbrev State.RouteSound (s : State) : Prop :=
  s.cfg.NarrowsSpaced ∧ (∀ e ∈ s.cfg.narrows, e.disabled = none → e.lo < e.hi) ∧
  s.cfg.lTractor + s.cfg.lTrailer ≤ 4095 ∧ s.road.rigLength ≤ 4095

/-- R134: a record for each configured narrow, a relation other than NONE with at most one narrow, and that an enabled
one; and no relation and no hold in START. -/
abbrev State.RelationsSound (s : State) : Prop :=
  s.narrow.records.length = s.cfg.narrows.length ∧
  (∀ i < s.narrow.records.length, (s.narrowRecord i).relation ≠ .none →
    (s.cfg.enabledNarrow i).isSome = true ∧
    ∀ j < s.narrow.records.length, (s.narrowRecord j).relation ≠ .none → j = i) ∧
  (s.loading = true → s.holds.stack = [] ∧ ∀ r ∈ s.narrow.records, r.relation = .none)

/-- R120: an unreleased NARROW_WAIT record is on the stack exactly when the relation with some narrow is WAITING. -/
abbrev State.PairingSound (s : State) : Prop :=
  s.holds.unreleased .narrowWait = true ↔ ∃ r ∈ s.narrow.records, r.relation = .waiting

/-- R177: each lamp line stands as the state calls for. -/
abbrev State.LampsSound (s : State) : Prop := s.lamps = s.lampsNow

/-- R41, R46: the FIRST count is at most 4. -/
abbrev State.FirstCountSound (s : State) : Prop := s.air.firstCount ≤ 4

/-- R176: the lamp timebase counts from 0 to 999. -/
abbrev State.TimebaseSound (s : State) : Prop := s.lamps.timebase ≤ 999

/-- Every predicate of this file that a step keeps by itself and that bounds a register (R2, R30, R36, R46, R100, R149,
R163, R176). -/
abbrev State.RangesSound (s : State) : Prop :=
  s.PositionSound ∧ s.DriveSound ∧ s.WaitAgesSound ∧ s.HopSound ∧ s.JitterSound ∧ s.RotationSound ∧ s.CountersSound ∧
  s.FirstCountSound ∧ s.TimebaseSound

/-- R156: the throttle value is at most V_max, and 0 in START, where no V_max is known. -/
abbrev State.ThrottleSound (s : State) : Prop :=
  s.handset.throttle ≤ s.cfg.vMax ∧ (s.loading = true → s.handset.throttle = 0)

/-- R47, R48: the fields of a peer record lie in their ranges. -/
abbrev PeerRecord.Sound (r : PeerRecord) : Prop :=
  1 ≤ r.id ∧ r.id ≤ 30 ∧ r.lead ≤ 255 ∧ r.position ≤ 65535 ∧ r.speed ≤ 1023 ∧ r.rigLength ≤ 4095 ∧ r.mode ≠ .start ∧
  r.convoyId ≤ 31 ∧ r.memberIndex ≤ 15 ∧ 100 ≤ r.period ∧ r.period ≤ 2000 ∧
  (∀ p ∈ r.narrowPart, p.index ≤ 7 ∧ p.relation ≠ .none ∧ p.waitAge ≤ 255) ∧
  (∀ p ∈ r.orderPart, p.code ≠ .none ∧ p.seq ≤ 15 ∧ p.hop ≤ 15)

/-- R47, R163: every peer record lies in its ranges, and so does the order sequence, which is copied from one. -/
abbrev State.RecordsSound (s : State) : Prop := (∀ r ∈ s.peers.records, r.Sound) ∧ s.order.seq ≤ 15

/-- R134, R142, R179: N_ask lies in its range, asks sent is at most 7, and a record with an ask to come has asks left. -/
abbrev State.AsksSound (s : State) : Prop :=
  s.cfg.nAsk ≤ 7 ∧ (s.config ≠ none → 2 ≤ s.cfg.nAsk) ∧
  ∀ r ∈ s.narrow.records, r.asksSent ≤ 7 ∧ (r.ask ≠ .none → r.asksSent < s.cfg.nAsk)

/-! ### A received frame that closes (R25, R37) -/

/-- The station as a received frame has closed and has not acted yet: a transmitter in SENSE that finds BUSY clear draws mod 8
and enters BACKOFF (R37). That this comes before the frame acts is the model's reading, log entry 30. -/
def State.frameClosed (s : State) : State :=
  match s.air.transmitter with
  | .sense c attempts _ =>
    if s.air.busy then { s with air := { s.air with reception := .closed } }
    else
      let drawn := jitterStep s.air.jitter
      { s with air := { s.air with
        reception := .closed, jitter := drawn
        transmitter := .backoff c attempts { start := s.time, period := drawn.toNat % 8 * 4 } } }
  | _ => { s with air := { s.air with reception := .closed } }

/-! ### Frames the Air Port may send (R22, R23) -/

/-- The sender id of a valid frame. -/
abbrev SenderSound (id : Nat) : Prop := 1 ≤ id ∧ id ≤ 30

/-- A BEACON whose fields lie in the ranges of the frame's table. -/
abbrev Beacon.Sound (b : Beacon) : Prop :=
  SenderSound b.sender ∧ b.lead ≤ 255 ∧ b.front ≤ 65535 ∧ b.mode ≠ .start ∧ b.speed ≤ 1023 ∧ b.memberIndex ≤ 15 ∧
  b.rigLength ≤ 4095 ∧ b.convoyId ≤ 31 ∧ b.narrow ≤ 7 ∧ b.orderSeq ≤ 15 ∧ b.waitAge ≤ 255 ∧ b.orderHop ≤ 15 ∧
  10 ≤ b.period ∧ b.period ≤ 200

/-- An ASK whose fields lie in the ranges of the frame's table. -/
abbrev AskFrame.Sound (a : AskFrame) : Prop := SenderSound a.sender ∧ a.narrow ≤ 7 ∧ a.waitAge ≤ 255

/-- An OBJECT whose fields lie in the ranges of the frame's table. -/
abbrev ObjectFrame.Sound (o : ObjectFrame) : Prop :=
  SenderSound o.sender ∧ o.target ≤ 31 ∧ o.narrow ≤ 7 ∧ o.relation ≠ .none ∧ o.waitAge ≤ 255

/-- A frame whose fields lie in the ranges of its table. -/
def Frame.Sound : Frame → Prop
  | .beacon b => b.Sound
  | .ask a => a.Sound
  | .object o => o.Sound

/-- The sender of a frame. -/
def Frame.sender : Frame → Nat
  | .beacon b => b.sender
  | .ask a => a.sender
  | .object o => o.sender

end Sys2Proof.Machine
end

