-- ==== Sys2Proof/Certificates/Slice0/Obligations.lean ====
section
/-!
DEFINITION. The statements for the provers. A state after a command is written out as the state before it with the blocks the
command writes, so a statement says what the command leaves alone as well as what it does. `settleLamps` refreshes the three
lamp lines (`Obligations.LampLinesShowTheState` says how). A statement that rests on one of the model's own choices names
its log entry.
-/

open Sys2Proof Sys2Proof.Machine

/-! ### The machine -/

/-- The command at the front of the queue runs, with the rest of the queue behind it (the model's, log entry 1). While none
waits, an own event of the part that has come about runs: the only one, or one of several, and then a free choice has been
made; with no own event a step is one millisecond of station time and of the lamp timebase (00_scope section 5, R176; that the
clock ticks then, and that the choice among several is free, is the model's, log entries 2 and 3). -/
def Obligations.StepRunsTheFrontCommand : Prop :=
  (∀ (c : Instr) (rest : List Instr) (s : State),
    step { s with pending := c :: rest } = exec c { s with pending := rest }) ∧
  (∀ (c : Instr) (s : State), s.pending = [] → s.ownEvents = [c] → step s = exec c s) ∧
  (∀ s : State, s.pending = [] → 2 ≤ s.ownEvents.length →
    ∃ c ∈ s.ownEvents, step s = exec c { s with freeCount := s.freeCount + 1 }) ∧
  (∀ s : State, s.pending = [] → s.ownEvents = [] →
    step s = .next { s with time := s.time + 1, lamps := { s.lamps with timebase := (s.lamps.timebase + 1) % 1000 } })

/-- The data book gives every command an effect in every mode: each answers a next state, and none takes another command
out of the queue or moves station time, but for POWER_ON, which sets it to 0 (00_scope section 5). A command that stands for an
event inside the part changes nothing while that event has not come about (the model's choice, log entry 4). -/
def Obligations.EveryCommandCompletes : Prop :=
  (∀ (c : Instr) (s : State), ∃ t, exec c s = .next t ∧ t.pending = s.pending ∧
    t.time = if c = .powerOn then 0 else s.time) ∧
  (∀ (c : Instr) (s : State),
    c ∈ [Instr.loadByteTimeout, .loadFailure, .loadSuccess, .hitchDebounceExpiry, .obstDebounceExpiry, .receivedFrame,
      .frameTimeout, .beaconDue, .arbiterGrant, .busyAttemptTimeout, .backoffEnd, .radioTimeout, .spacingStep, .driveStep,
      .sweep, .narrowStep, .askDue, .answerWindowEnd, .answerExpiry, .waitAgeExpiry, .channelAbsent .throttle,
      .channelAbsent .mode, .stopTimerExpiry, .resetGesture] →
    c ∉ s.ownEvents → exec c s = .next s)

/-- The event counters never fall but all at once to 0, and that by POWER_ON or by a CLEAR, which is taken as it arrives or
at the end of a response (00_scope section 5, R187). -/
def Obligations.CountersFallOnlyToZero : Prop :=
  ∀ (c : Instr) (s t : State), exec c s = .next t →
    (t.counters = .zero ∧ (c = .powerOn ∨ c = .clear ∨ c = .responseEnd ∨ c = .receivedCharacter 13)) ∨
    (s.CountersSound →
      s.counters.largeCorrection ≤ t.counters.largeCorrection ∧ s.counters.unknownMarker ≤ t.counters.unknownMarker ∧
      s.counters.unreadableMarker ≤ t.counters.unreadableMarker ∧ s.counters.malformed ≤ t.counters.malformed ∧
      s.counters.crcError ≤ t.counters.crcError ∧ s.counters.unknownKind ≤ t.counters.unknownKind ∧
      s.counters.idClash ≤ t.counters.idClash ∧ s.counters.beaconDropped ≤ t.counters.beaconDropped ∧
      s.counters.askDropped ≤ t.counters.askDropped ∧ s.counters.answerWithdrawn ≤ t.counters.answerWithdrawn ∧
      s.counters.radioTimeout ≤ t.counters.radioTimeout ∧ s.counters.oldSequence ≤ t.counters.oldSequence ∧
      s.counters.tableFull ≤ t.counters.tableFull ∧ s.counters.closeIn ≤ t.counters.closeIn ∧
      s.counters.overspeed ≤ t.counters.overspeed ∧ s.counters.unclaimedEntry ≤ t.counters.unclaimedEntry ∧
      s.counters.lateObjection ≤ t.counters.lateObjection ∧ s.counters.narrowConflict ≤ t.counters.narrowConflict ∧
      s.counters.answerDropped ≤ t.counters.answerDropped ∧ s.counters.answerExpired ≤ t.counters.answerExpired ∧
      s.counters.obstructionStop ≤ t.counters.obstructionStop ∧ s.counters.requestDropped ≤ t.counters.requestDropped)

/-! ### Power-on, loads and restart -/

/-- POWER_ON gives every block its power-on values, mode START and a load begun; the three input lines stand (R19, R46,
R65, R83, R99, R114, R130, R154, R168, R178, R189). The pulse times and the last throttle width, the lines and freeCount
follow the model's log entries 9, 21 and 22. -/
def Obligations.PowerOnSetsEveryBlock : Prop :=
  ∀ s : State, exec .powerOn s = .next
    { time := 0, config := none
      loader := { phase := .reading [] 0, reason := .loading, clamped := [] }
      road := { posUm := 0, direction := .up, quality := .unknown, sinceMarkerUm := 0, turnSpacing := false
                turnNarrow := false, hitch := .uncoupled, rigLength := 0 }
      air := { busy := s.air.busy, reception := .closed, transmitter := .idle, rotation := [.object, .ask, .beacon]
               sequence := 0, firstCount := 4, beaconNow := false, beaconDue := false, beaconTimer := none
               sample := none, jitter := 1, clash := false }
      peers := { records := [], sweepTimer := 0 }
      spacing := { predecessor := none, role := .parked, convoyId := 0, memberIndex := 0, splitTimer := none
                   parkTimer := none, wakeTimer := none, lostId := 0, autoEntry := false, stepTimer := none, vRef := 0
                   closeIn := false, braking := false }
      drive := { edgeCount := 0, vMeas := 0, integral := 0, buffer := { state := .coast, duty := 0 }
                 updatePending := false, applied := { state := .coast, duty := 0 }, obstructionKill := false
                 stepTimer := none }
      holds := { stack := [], lockout := .none }
      narrow := { records := [], queue := [], stepTimer := none, waitAgeTimer := none }
      handset := { throttleChannel := { present := false, lastPulse := 0 }
                   modeChannel := { present := false, lastPulse := 0 }
                   throttle := 0, lastWidth := 0, band := .absent, stopTimer := none, stopHeld := false
                   resetTimer := none, resetLock := false, resumePending := false }
      order := { code := .none, seq := 0, origin := 0, hop := 0, lastIssued := .none, unsynchronised := false }
      sensors := { hitchLine := s.sensors.hitchLine, obstLine := s.sensors.obstLine, hitchActive := false
                   obstActive := false, hitchTimer := none, obstTimer := none }
      lamps := { timebase := 0, brake := .undriven, amber := .undriven, head := .undriven }
      service := { word := [], overlong := false, response := none, pendingRequest := none }
      counters := .zero, freeCount := s.freeCount, pending := s.pending }

/-- IMAGE_BYTE: the byte joins the load buffer; after four bytes the version and the length are tested, and a buffer of
the length named goes to the sum, identity and structure checks in that order. LOAD_BYTE_TIMEOUT: 200 ms without the
next byte fail the load with reason TIMEOUT (R179, R180). That the outcome waits to be taken is the model's choice, log
entry 16. -/
def Obligations.LoadReadsAndChecksTheImage : Prop :=
  ∀ (s : State) (buffer : List Byte) (last : Time), s.loader.phase = .reading buffer last →
    (∀ b : Byte,
      let image := buffer ++ [b]
      let at_ := fun i => (image.getD i 0).toNat
      let word := fun i => at_ i * 256 + at_ (i + 1)
      let phase : LoadPhase :=
        if image.length < 4 then .reading image s.time
        else if at_ 0 ≠ 1 then .ended image (some .version)
        else if word 1 < 452 ∨ 676 < word 1 then .ended image (some .length)
        else if image.length < word 1 then .reading image s.time
        else if ((image.take (image.length - 2)).map (fun x => x.toNat)).sum % 65536 ≠ word (image.length - 2) then
          .ended image (some .sum)
        else if at_ 3 = 0 ∨ 30 < at_ 3 then .ended image (some .id)
        else if 48 < at_ 64 ∨ 8 < at_ 65 ∨ image.length ≠ 452 + 4 * at_ 64 + 4 * at_ 65 then
          .ended image (some .structure)
        else .ended image none
      exec (.imageByte b) s = .next (settleLamps { s with loader := { s.loader with phase := phase } })) ∧
    (200 ≤ (s.time - last).toNat →
      exec .loadByteTimeout s =
        .next (settleLamps { s with loader := { s.loader with phase := .ended buffer (some .timeout) } }))

/-- LOAD_FAILURE: the reason is set, the lockout cause becomes CONFIG, and the bridge and its buffer go to BRAKE_HOLD with
nothing pending and I at 0; no counter changes and the working configuration stands (R110, R127, R180, R181). -/
def Obligations.FailedLoadLocksOut : Prop :=
  ∀ (s : State) (buffer : List Byte) (reason : LoadReason), s.loader.phase = .ended buffer (some reason) →
    exec .loadFailure s = .next (settleLamps
      { s with
        loader := { s.loader with phase := .idle, reason := reason }
        holds := { s.holds with lockout := .config }
        drive := { s.drive with
          applied := { state := .brakeHold, duty := 0 }, buffer := { state := .brakeHold, duty := 0 }
          updatePending := false, integral := 0 } })

/-- LOAD_SUCCESS writes every field of the image from the place R179 gives it: the ranged fields and the 128 segment entries
brought within their ranges, V_cruise to at most V_max and G_split to at least G_join + 100; the station id as it stands; the
marker and narrow entries as they stand, with their tests (Obligations.MarkerEntriesAreTested and NarrowEntriesAreChecked).
A field is marked clamped exactly when it has taken a bound (R179, R182). -/
def Obligations.LoadedFieldsAreClamped : Prop :=
  ∀ (s : State) (image : List Byte), s.loader.phase = .ended image none →
    let at_ := fun i => (image.getD i 0).toNat
    let word := fun i => at_ i * 256 + at_ (i + 1)
    let within := fun lo hi x => min hi (max lo x)
    let narrowsAt := 66 + 4 * at_ 64
    let segmentsAt := narrowsAt + 4 * at_ 65
    let bias : Nat → Int := fun i =>
      let x := word (segmentsAt + 3 * i)
      if x < 32768 then x else (x : Int) - 65536
    let cap := fun i => at_ (segmentsAt + 3 * i + 2)
    ∃ (t : State) (c : WorkingConfig), exec .loadSuccess s = .next t ∧ t.config = some c ∧ c.stationId = at_ 3 ∧
      c.lTractor = within 100 2000 (word 4) ∧ c.lTrailer = within 0 2095 (word 6) ∧ c.eS = within 50 2000 (word 8) ∧
      c.readerOffset = within 0 300 (word 10) ∧ (c.gradeBiasOn = true ↔ at_ 12 ≠ 0) ∧
      (c.hitchPolarity = .activeHigh ↔ at_ 13 ≠ 0) ∧ (c.obstPolarity = .activeHigh ↔ at_ 14 ≠ 0) ∧
      (c.obstMode = .latched ↔ at_ 15 ≠ 0) ∧ (c.brakeFitted = true ↔ at_ 16 ≠ 0) ∧
      (c.amberFitted = true ↔ at_ 17 ≠ 0) ∧ (c.headFitted = true ↔ at_ 18 ≠ 0) ∧ c.pB = within 10 50 (at_ 19) ∧
      c.wAhead = within 0 8000 (word 20) ∧ c.hLimit = within 100 2000 (word 22) ∧ c.g0 = within 50 1000 (word 24) ∧
      c.th = within 0 3000 (word 26) ∧ c.kg = within 1 63 (at_ 28) ∧ c.vMax = within 100 1023 (word 29) ∧
      c.vCruise = min (within 0 1023 (word 31)) c.vMax ∧ c.vCreep = within 20 150 (at_ 33) ∧
      c.aUp = within 50 2000 (word 34) ∧ c.aDn = within 50 3000 (word 36) ∧ c.gJoin = within 100 3000 (word 38) ∧
      c.gSplit = max (within 200 6000 (word 40)) (c.gJoin + 100) ∧ c.tSplit = within 500 10000 (word 42) ∧
      c.tPark = within 2000 60000 (word 44) ∧ c.kFf = within 0 1023 (word 46) ∧ c.kP = at_ 48 ∧ c.kI = at_ 49 ∧
      c.lRoad = within 2000 65000 (word 50) ∧ c.snap = within 20 500 (word 52) ∧ c.drift = within 1000 20000 (word 54) ∧
      c.dClaim = within 300 5000 (word 56) ∧ c.dStop = within 50 500 (word 58) ∧ c.nAsk = within 2 7 (at_ 60) ∧
      c.askInterval = within 50 250 (at_ 61) ∧ c.wAns = within 100 400 (word 62) ∧
      c.markers = testMarkers c.lRoad ((List.range (at_ 64)).map fun i =>
        { code := at_ (66 + 4 * i), position := word (67 + 4 * i), kind := at_ (69 + 4 * i), disabled := none }) ∧
      c.narrows = checkNarrows c.lRoad c.dClaim c.dStop ((List.range (at_ 65)).map fun i =>
        { lo := word (narrowsAt + 4 * i), hi := word (narrowsAt + 4 * i + 2), disabled := none }) ∧
      c.segments = (List.range 128).map (fun i =>
        { gradeBias := min 255 (max (-255) (bias i)), capCode := min (cap i) 15 }) ∧
      (∀ i < 128, (ConfigField.gradeBias i ∈ t.loader.clamped ↔ bias i < -255 ∨ 255 < bias i) ∧
        (ConfigField.zoneCap i ∈ t.loader.clamped ↔ 15 < cap i)) ∧
      (∀ f ∈ [(StationField.gradeBiasEnable, 12), (.hitchPolarity, 13), (.obstPolarity, 14), (.obstMode, 15),
          (.brakeFitted, 16), (.amberFitted, 17), (.headFitted, 18)],
        ConfigField.station f.1 ∈ t.loader.clamped ↔ 1 < at_ f.2) ∧
      (∀ f ∈ [(StationField.lTractor, word 4, c.lTractor), (.lTrailer, word 6, c.lTrailer), (.eS, word 8, c.eS),
          (.readerOffset, word 10, c.readerOffset), (.pB, at_ 19, c.pB), (.wAhead, word 20, c.wAhead),
          (.hLimit, word 22, c.hLimit), (.g0, word 24, c.g0), (.th, word 26, c.th), (.kg, at_ 28, c.kg),
          (.vMax, word 29, c.vMax), (.vCruise, word 31, c.vCruise), (.vCreep, at_ 33, c.vCreep), (.aUp, word 34, c.aUp),
          (.aDn, word 36, c.aDn), (.gJoin, word 38, c.gJoin), (.gSplit, word 40, c.gSplit), (.tSplit, word 42, c.tSplit),
          (.tPark, word 44, c.tPark), (.kFf, word 46, c.kFf), (.kP, at_ 48, c.kP), (.kI, at_ 49, c.kI)],
        ConfigField.station f.1 ∈ t.loader.clamped ↔ f.2.1 ≠ f.2.2) ∧
      (∀ f ∈ [(RouteField.lRoad, word 50, c.lRoad), (.snap, word 52, c.snap), (.drift, word 54, c.drift),
          (.dClaim, word 56, c.dClaim), (.dStop, word 58, c.dStop), (.nAsk, at_ 60, c.nAsk),
          (.askInterval, at_ 61, c.askInterval), (.wAns, word 62, c.wAns)],
        ConfigField.route f.1 ∈ t.loader.clamped ↔ f.2.1 ≠ f.2.2)

/-- LOAD_SUCCESS, with the OBST line INACTIVE under the new polarity: what each block takes (R11, R12, R20, R31, R34, R66,
R83, R101, R114, R136, R154, R172, R183). With the line ACTIVE, at the values START has for the stack, the role, V_ref and
V_meas, an obstruction activation follows in mode PARKED: one unreleased OBSTRUCTION record, the kill flag set, I at 0, the
stop counted (R108, R119, R172, R173). -/
def Obligations.SuccessfulLoadStartsTheStation : Prop :=
  ∀ (s : State) (image : List Byte), s.loader.phase = .ended image none →
    let c := configOf image
    let hitched := rawActive c.hitchPolarity s.sensors.hitchLine
    let seed := BitVec.ofNat 16 (c.stationId * 2053 + s.time.toNat % 65536)
    let drawn := jitterStep (if seed = 0 then 1 else seed)
    let period := 10 * c.pB
    let base :=
      { s with
        config := some c
        loader := { phase := .idle, reason := .none, clamped := clampedMarks image }
        road := { s.road with
          hitch := if hitched then .coupled else .uncoupled
          rigLength := if hitched then c.lTractor + c.lTrailer else c.lTractor
          posUm := min s.road.posUm (c.lRoad * 1000) }
        sensors := { s.sensors with hitchActive := hitched, hitchTimer := none, obstActive := false, obstTimer := none }
        spacing := { s.spacing with convoyId := c.stationId, memberIndex := 0, stepTimer := some s.time }
        drive := { s.drive with
          applied := { state := .brakeHold, duty := 0 }, buffer := { state := .brakeHold, duty := 0 }
          updatePending := false, stepTimer := some s.time }
        narrow := { s.narrow with records := c.narrows.map (fun _ => NarrowRecord.idle), stepTimer := some s.time }
        air := { s.air with
          jitter := drawn
          beaconTimer := some { start := s.time, period := 7 * period / 8 + drawn.toNat % (period / 4 + 1) } } }
    (rawActive c.obstPolarity s.sensors.obstLine = false → exec .loadSuccess s = .next (settleLamps base)) ∧
    (rawActive c.obstPolarity s.sensors.obstLine = true → s.holds = { stack := [], lockout := .none } →
      s.spacing.role = .parked → s.spacing.vRef = 0 → s.drive.vMeas = 0 →
      exec .loadSuccess s = .next (settleLamps
        { base with
          sensors := { base.sensors with obstActive := true }
          holds :=
            { stack :=
                [{ cause := .obstruction, pushedAt := s.time, modeBefore := .parked, vRefAtPush := 0, released := false
                   lostId := none }]
              lockout := .none }
          drive := { base.drive with obstructionKill := true, integral := 0 }
          counters := { s.counters with obstructionStop := min (s.counters.obstructionStop + 1) 65535 }
          freeCount := s.freeCount + 1 }))

/-- A RESTART of a station that holds a valid configuration, with the OBST line INACTIVE: what each block takes and what
it keeps (R20, R31, R34, R46, R65, R83, R99, R115, R129, R154, R168, R184). With the line ACTIVE an obstruction
activation follows in mode PARKED: one unreleased OBSTRUCTION record, the kill flag set, the stop counted (R108, R119,
R172, R173). That the last throttle width and the wait-age timer stand is the model's, log entry 21, and so is that a
completed frame still to be judged goes with the receive buffer, log entry 39. -/
def Obligations.RestartKeepsThePlace : Prop :=
  ∀ s : State, s.loading = false → s.holds.lockout ≠ .config →
    let seed := BitVec.ofNat 16 (s.ownId * 2053 + s.time.toNat % 65536)
    let drawn := jitterStep (if seed = 0 then 1 else seed)
    let period := 10 * s.cfg.pB
    let base :=
      { s with
        road := { s.road with turnSpacing := false, turnNarrow := false }
        air := { s.air with
          reception := .closed, transmitter := .idle, rotation := [.object, .ask, .beacon], sequence := 0
          firstCount := 4, beaconNow := false, beaconDue := false, sample := none, clash := false, jitter := drawn
          beaconTimer := some { start := s.time, period := 7 * period / 8 + drawn.toNat % (period / 4 + 1) } }
        peers := { records := [], sweepTimer := s.time }
        spacing := { predecessor := none, role := .parked, convoyId := s.ownId, memberIndex := 0, splitTimer := none
                     parkTimer := none, wakeTimer := none, lostId := 0, autoEntry := false, stepTimer := some s.time
                     vRef := 0, closeIn := false, braking := false }
        drive := { edgeCount := 0, vMeas := 0, integral := 0, buffer := { state := .brakeHold, duty := 0 }
                   updatePending := false, applied := { state := .brakeHold, duty := 0 }, obstructionKill := false
                   stepTimer := some s.time }
        holds := { stack := [], lockout := .none }
        narrow := { s.narrow with
          records := s.narrow.records.map (fun _ => NarrowRecord.idle), queue := [], stepTimer := some s.time }
        handset := { s.handset with
          throttleChannel := { present := false, lastPulse := 0 }, modeChannel := { present := false, lastPulse := 0 }
          throttle := 0, band := .absent, stopTimer := none, stopHeld := false, resetTimer := none, resetLock := true
          resumePending := false }
        order := { code := .none, seq := 0, origin := 0, hop := 0, lastIssued := .none, unsynchronised := false }
        sensors := { s.sensors with obstActive := false, obstTimer := none }
        service := { word := [], overlong := false, response := none, pendingRequest := none } }
    (s.obstRaw = false → exec .restart s = .next (settleLamps base)) ∧
    (s.config ≠ none → s.obstRaw = true →
      exec .restart s = .next (settleLamps
        { base with
          sensors := { base.sensors with obstActive := true }
          holds :=
            { stack :=
                [{ cause := .obstruction, pushedAt := s.time, modeBefore := .parked, vRefAtPush := 0, released := false
                   lostId := none }]
              lockout := .none }
          drive := { base.drive with obstructionKill := true }
          counters := { s.counters with obstructionStop := min (s.counters.obstructionStop + 1) 65535 }
          freeCount := s.freeCount + 1 }))

/-- A RESTART during a load, or in LOCKOUT with cause CONFIG, begins a new load at the first address; the mode is START, no
step timer runs, no beacon is scheduled, and position, hitch state, counters and lamp timebase are kept (R20, R46, R115,
R129, R180, R184, R185). The reset gesture held for 3,000 ms outside START, and the end of a RESTART response, each do what
RESTART does (R162, R184, R186, R187; that they take the restart within their own event is the model's reading, log entry
17). -/
def Obligations.RestartReloads : Prop :=
  (∀ s : State, s.loading = true ∨ s.holds.lockout = .config →
      ∃ t, exec .restart s = .next t ∧ t.mode = .start ∧ t.loader = { s.loader with phase := .reading [] s.time, reason := .loading } ∧
        t.holds = { stack := [], lockout := .none } ∧ t.spacing.stepTimer = none ∧ t.drive.stepTimer = none ∧
        t.narrow.stepTimer = none ∧ t.air.beaconTimer = none ∧ t.air.beaconDue = false ∧ t.air.transmitter = .idle ∧
        t.drive.applied = { state := .brakeHold, duty := 0 } ∧ t.spacing.vRef = 0 ∧ t.peers.records = [] ∧
        t.order.code = .none ∧ t.handset.resetLock = true ∧ t.service.pendingRequest = none ∧
        t.road = { s.road with turnSpacing := false, turnNarrow := false } ∧ t.counters = s.counters ∧
        t.config = s.config ∧ t.sensors = s.sensors ∧ t.lamps.timebase = s.lamps.timebase ∧ t.time = s.time ∧
        t.freeCount = s.freeCount ∧ t.pending = s.pending) ∧
  (∀ (s : State) (start : Time), s.handset.resetTimer = some start → 3000 ≤ (s.time - start).toNat → s.mode ≠ .start →
    ∃ t, exec .resetGesture s = .next t ∧ exec .restart s = .next t) ∧
  (∀ (s : State) (r : Response), s.service.response = some r → r.request = .restart →
    ∃ t, exec .responseEnd s = .next t ∧ exec .restart s = .next t)

/-- The tests of the marker entries at a load: an entry keeps its fields and takes the reason of the first test it fails,
judged against the lower-index entries that stayed enabled (R1, R182). -/
def Obligations.MarkerEntriesAreTested : Prop :=
  ∀ (lRoad : Nat) (entries : List MarkerEntry) (i : Nat) (m : MarkerEntry), entries[i]? = some m →
    let tested := testMarkers lRoad entries
    let reason : Option MarkerFault :=
      if m.code = 0 ∨ m.code = 255 then some .code
      else if 2 < m.kind then some .kind
      else if lRoad < m.position then some .range
      else if ∃ x ∈ tested.take i, x.disabled = none ∧ x.code = m.code then some .duplicate
      else none
    tested.length = entries.length ∧ tested[i]? = some { m with disabled := reason }

/-- The checks of the narrow entries at a load: an entry keeps its bounds and takes the name of the first check it fails,
judged against the lower-index entries that stayed enabled (R132). -/
def Obligations.NarrowEntriesAreChecked : Prop :=
  ∀ (lRoad dClaim dStop : Nat) (entries : List NarrowEntry) (i : Nat) (e : NarrowEntry), entries[i]? = some e →
    let checked := checkNarrows lRoad dClaim dStop entries
    let distance := fun x : NarrowEntry => if x.hi < e.lo then e.lo - x.hi else x.lo - e.hi
    let failed : Option NarrowFault :=
      if e.hi ≤ e.lo then some .order
      else if lRoad < e.hi then some .range
      else if ∃ x ∈ checked.take i, x.disabled = none ∧ x.lo ≤ e.hi ∧ e.lo ≤ x.hi then some .overlap
      else if ∃ x ∈ checked.take i, x.disabled = none ∧ distance x < dClaim + dStop + 4095 then some .spacing
      else none
    checked.length = entries.length ∧ checked[i]? = some { e with disabled := failed }

/-! ### Road tracking -/

/-- ENCODER_EDGE moves the position by E_s in the current direction and keeps it on the road, adds the full E_s to the
distance since the last marker, lets GOOD fall to DRIFT, and is counted by the Drive Unit while its step timer runs; it is
ignored while the station holds no valid configuration (R2, R3, R4, R5, R102). -/
def Obligations.EncoderEdgeMovesTheRig : Prop :=
  ∀ s : State,
    (s.loading = false → s.holds.lockout ≠ .config →
      exec .encoderEdge s = .next (settleLamps
        { s with
          road := { s.road with
            posUm :=
              match s.road.direction with
              | .up => min (s.road.posUm + s.cfg.eS) (s.cfg.lRoad * 1000)
              | .down => min (s.road.posUm - s.cfg.eS) (s.cfg.lRoad * 1000)
            sinceMarkerUm := min (s.road.sinceMarkerUm + s.cfg.eS) 65535000
            quality :=
              if s.road.quality = .good ∧ s.cfg.drift * 1000 < min (s.road.sinceMarkerUm + s.cfg.eS) 65535000 then .drift
              else s.road.quality }
          drive := { s.drive with
            edgeCount := if s.drive.stepTimer = none then s.drive.edgeCount else min (s.drive.edgeCount + 1) 65535 } })) ∧
    (s.loading = true ∨ s.holds.lockout = .config → s.drive.stepTimer = none →
      exec .encoderEdge s = .next (settleLamps s))

/-- A code byte from the marker reader is classified as it arrives; a position or turn marker corrects the estimate, sets
the quality by the discrepancy, and a turn marker whose new direction differs sets both turn-pending flags (R6, R7, R8,
R10, R18). Without a valid configuration the code is ignored (R5). -/
def Obligations.MarkerCodesAreClassified : Prop :=
  ∀ (s : State) (code : Byte),
    (s.loading = true ∨ s.holds.lockout = .config → exec (.markerCode code) s = .next (settleLamps s)) ∧
    (s.loading = false → s.holds.lockout ≠ .config →
      (code = 0 → exec (.markerCode code) s = .next (settleLamps s)) ∧
      (code = 255 → exec (.markerCode code) s = .next (settleLamps
        { s with counters := { s.counters with unreadableMarker := min (s.counters.unreadableMarker + 1) 65535 } })) ∧
      (code ≠ 0 → code ≠ 255 → (∀ m ∈ s.cfg.markers, m.disabled = none → m.code ≠ code.toNat) →
        exec (.markerCode code) s = .next (settleLamps
          { s with counters := { s.counters with unknownMarker := min (s.counters.unknownMarker + 1) 65535 } })) ∧
      (∀ m : MarkerEntry, code ≠ 0 → code ≠ 255 →
        s.cfg.markers.find? (fun x => x.disabled.isNone && decide (x.code = code.toNat)) = some m →
        let front : Nat :=
          match s.road.direction with
          | .up => min (m.position + s.cfg.readerOffset) s.cfg.lRoad
          | .down => min (m.position - s.cfg.readerOffset) s.cfg.lRoad
        let discrepancy := ((front : Int) - (s.road.posUm / 1000 : Nat)).natAbs
        let poor := s.road.quality ≠ .unknown ∧ s.cfg.snap < discrepancy
        let inside := ∃ e ∈ s.cfg.narrows, e.disabled = none ∧ e.lo ≤ m.position ∧ m.position ≤ e.hi
        let direction :=
          if m.kind = 1 ∧ ¬inside then .up else if m.kind = 2 ∧ ¬inside then .down else s.road.direction
        exec (.markerCode code) s = .next (settleLamps
          { s with
            road := { s.road with
              posUm := front * 1000, sinceMarkerUm := 0, quality := if poor then .poor else .good
              direction := direction
              turnSpacing := s.road.turnSpacing || decide (direction ≠ s.road.direction)
              turnNarrow := s.road.turnNarrow || decide (direction ≠ s.road.direction) }
            counters := { s.counters with
              largeCorrection :=
                if poor then min (s.counters.largeCorrection + 1) 65535 else s.counters.largeCorrection } })))

/-- What the Road Tracker answers its readers: the rear, the grade bias and the zone cap (R15, R16, R17). -/
def Obligations.RoadReadingsFollowTheTables : Prop :=
  ∀ s : State,
    let front := s.road.posUm / 1000
    let segment := fun i => s.cfg.segments.getD i { gradeBias := 0, capCode := 0 }
    let cap := fun i => if (segment i).capCode = 0 then s.cfg.vMax else (segment i).capCode * 64
    s.rear = (match s.road.direction with
      | .up => (front : Int) - s.road.rigLength
      | .down => (front : Int) + s.road.rigLength) ∧
    s.gradeBias = (if s.cfg.gradeBiasOn = false then 0
      else match s.road.direction with
      | .up => (segment (front / 512)).gradeBias
      | .down => -(segment (front / 512)).gradeBias) ∧
    s.zoneCap = (match s.road.direction with
      | .up => min (cap (front / 512)) (cap (min (front / 512 + 1) 127))
      | .down => min (cap (front / 512)) (cap (front / 512 - 1)))

/-! ### Switch lines and obstruction stops -/

/-- The HITCH line is debounced in both directions: an edge starts the timer where raw and conditioned levels come to
differ and stops it where they come to agree, and 200 ms later the conditioned level, the hitch state and the rig length
follow (R11, R12, R169, R170). -/
def Obligations.HitchIsDebounced : Prop :=
  ∀ s : State,
    (∀ level : Level, s.config ≠ none → level ≠ s.sensors.hitchLine →
      let raw := rawActive s.cfg.hitchPolarity level
      exec (.hitchEdge level) s = .next (settleLamps
        { s with sensors := { s.sensors with
          hitchLine := level
          hitchTimer :=
            if raw = s.sensors.hitchActive then none
            else if s.sensors.hitchTimer = none then some s.time else s.sensors.hitchTimer } })) ∧
    (∀ start : Time, s.config ≠ none → s.sensors.hitchTimer = some start → 200 ≤ (s.time - start).toNat →
      let raw := rawActive s.cfg.hitchPolarity s.sensors.hitchLine
      exec .hitchDebounceExpiry s = .next (settleLamps
        { s with
          sensors := { s.sensors with hitchActive := raw, hitchTimer := none }
          road := { s.road with
            hitch := if raw then .coupled else .uncoupled
            rigLength := if raw then s.cfg.lTractor + s.cfg.lTrailer else s.cfg.lTractor } })) ∧
    (∀ level : Level, s.config = none →
      exec (.hitchEdge level) s = .next (settleLamps { s with sensors := { s.sensors with hitchLine := level } }))

/-- The end of an obstruction is believed after 200 ms: an edge to INACTIVE starts the timer, an edge back stops it, and its
expiry makes the level INACTIVE and, in MOMENTARY mode only, requests the release of OBSTRUCTION (R171, R174). -/
def Obligations.ObstructionReleaseIsDebounced : Prop :=
  ∀ s : State, s.config ≠ none → s.sensors.obstActive = true →
    (∀ level : Level, level ≠ s.sensors.obstLine →
      exec (.obstEdge level) s = .next (settleLamps
        { s with sensors := { s.sensors with
          obstLine := level
          obstTimer := if rawActive s.cfg.obstPolarity level then none else some s.time } })) ∧
    (∀ start : Time, s.sensors.obstTimer = some start → 200 ≤ (s.time - start).toNat →
      let s1 := { s with sensors := { s.sensors with obstActive := false, obstTimer := none } }
      exec .obstDebounceExpiry s =
        .next (settleLamps (match s.cfg.obstMode with
          | .momentary => releaseHold .obstruction s1
          | .latched => s1)))

/-- The first edge that makes the raw OBST level ACTIVE is an activation at once. Outside START and LOCKOUT V_ref is 0, the
kill flag is set, the bridge brakes at full force or holds by the last V_meas, the stop is counted, and the stack holds an
unreleased OBSTRUCTION record or, where it was full without one, the station locks out; in START and LOCKOUT only the level
is set (R97, R108, R120, R171, R173). -/
def Obligations.ObstructionActivates : Prop :=
  ∀ (s : State) (level : Level), s.config ≠ none → level ≠ s.sensors.obstLine →
    rawActive s.cfg.obstPolarity level = true → s.sensors.obstActive = false →
    (s.mode ≠ .start → s.mode ≠ .lockout →
      ∃ t, exec (.obstEdge level) s = .next t ∧ t.sensors = { s.sensors with obstLine := level, obstActive := true } ∧
        t.spacing = { s.spacing with vRef := 0 } ∧ t.drive.obstructionKill = true ∧ t.drive.updatePending = false ∧
        t.drive.integral = 0 ∧ t.drive.buffer = t.drive.applied ∧
        t.drive.applied =
          (if 0 < s.drive.vMeas then { state := .brake, duty := -1023 } else { state := .brakeHold, duty := 0 }) ∧
        t.drive.edgeCount = s.drive.edgeCount ∧ t.drive.vMeas = s.drive.vMeas ∧ t.drive.stepTimer = s.drive.stepTimer ∧
        t.counters = { s.counters with obstructionStop := min (s.counters.obstructionStop + 1) 65535 } ∧
        (if s.holds.has .obstruction = false ∧ 4 ≤ s.holds.stack.length then
          t.holds = { s.holds with lockout := .holdOverrun }
        else t.mode = .halt ∧ t.holds.unreleased .obstruction = true ∧ t.holds.lockout = s.holds.lockout) ∧
        t.config = s.config ∧ t.loader = s.loader ∧ t.road = s.road ∧ t.peers = s.peers ∧ t.narrow = s.narrow ∧
        t.handset = s.handset ∧ t.order = s.order ∧ t.service = s.service ∧ t.time = s.time ∧ t.pending = s.pending) ∧
    (s.mode = .start ∨ s.mode = .lockout →
      exec (.obstEdge level) s =
        .next (settleLamps { s with sensors := { s.sensors with obstLine := level, obstActive := true } }))

/-! ### The Air Port -/

/-- The CRC: the remainder starts at 0xFFFF and takes the bits of each byte from the most significant on, shifting with 0 in
and combining with 0x1021 where its top bit and the message bit differ; over the nine bytes 49 to 57 it is 0x29B1; it stands
in the last two bytes of a frame, high byte first; a frame passes where those two bytes hold the CRC of the others, which is so
exactly where the computation continued over them ends at 0 (R24). -/
def Obligations.CrcChecksItself : Prop :=
  (∀ bytes : List Byte, crc bytes =
    (bytes.flatMap (fun b => (List.range 8).map (fun i => b.getMsbD i))).foldl
      (fun (rem : Word16) (bit : Bool) => if rem.getMsbD 0 ≠ bit then (rem <<< 1) ^^^ 0x1021#16 else rem <<< 1) 0xFFFF#16) ∧
  crc [49, 50, 51, 52, 53, 54, 55, 56, 57] = 0x29B1 ∧
  (∀ body : List Byte, withCrc body = body ++ [(crc body).extractLsb' 8 8, (crc body).extractLsb' 0 8]) ∧
  (∀ (body : List Byte) (hi lo : Byte),
    (crcPasses (body ++ [hi, lo]) = true ↔ crc body = hi ++ lo) ∧
    (crc (body ++ [hi, lo]) = 0 ↔ crc body = hi ++ lo))

/-- A frame the Air Port builds from fields in their ranges passes every check of another station and gives back those
fields, with every field at every value its table admits (R22, R23, R24, R27). -/
def Obligations.FramesReadBackAsBuilt : Prop :=
  ∀ (f : Frame) (ownId : Nat), f.Sound → f.sender ≠ ownId → checkFrame ownId false f.bytes = .accepted f

/-- A draw moves every bit of the generator one place toward bit 16, with the exclusive-or of bits 16, 14, 13 and 11 (bit 1
the most significant) entering as bit 1, never leaves it at 0, and returns the new state as a number; a seed is own id × 2,053
plus the low 16 bits of station time, and 1 in place of 0 (R30, R31). -/
def Obligations.JitterDrawsAndSeeds : Prop :=
  (∀ s : State, s.air.jitter ≠ 0 →
    let old := s.air.jitter
    let new := s.afterDraw.air.jitter
    new ≠ 0 ∧ s.drawValue = new.toNat ∧
    new.getMsbD 0 = ((old.getMsbD 15 ^^ old.getMsbD 13) ^^ (old.getMsbD 12 ^^ old.getMsbD 10)) ∧
    (∀ i < 15, new.getMsbD (i + 1) = old.getMsbD i) ∧
    s.afterDraw = { s with air := { s.air with jitter := new } }) ∧
  (∀ (id : Nat) (now : Time),
    (jitterSeed id now).toNat =
      if (id * 2053 + now.toNat % 65536) % 65536 = 0 then 1 else (id * 2053 + now.toNat % 65536) % 65536)

/-- Reception, in every mode: SYNC opens a frame with a new arrival stamp and abandons an open one as malformed; the count
byte is the first byte; later bytes are stored up to 32 and the frame is complete at the count; a frame open for 20 ms is
abandoned as malformed, and a transmitter in SENSE may then find the channel clear (R25, R26, R29, R37; SYNC in BACKOFF:
Obligations.BusyAttemptsAreCounted). An abandoned frame counts in START and not in LOCKOUT with cause CONFIG, the model's
reading, log entry 10. A completed frame waits for its checks, and a SYNC or a byte that comes first has it judged before,
the model's reading, log entry 15. -/
def Obligations.FramesAreCollected : Prop :=
  ∀ s : State,
    let inBackoff := ∃ c n slots, s.air.transmitter = .backoff c n slots
    let opened : Reception := .opened { stamp := s.time, count := none, taken := 0, buffer := [] }
    let counted :=
      if s.loading = false ∧ s.holds.lockout = .config then s.counters
      else { s.counters with malformed := min (s.counters.malformed + 1) 65535 }
    (s.air.reception = .closed → ¬inBackoff →
      exec .sync s = .next (settleLamps { s with air := { s.air with reception := opened } })) ∧
    (∀ f : OpenFrame, s.air.reception = .opened f →
      (¬inBackoff → exec .sync s = .next (settleLamps
        { s with air := { s.air with reception := opened }, counters := counted })) ∧
      (∀ b : Byte,
        let after : Reception :=
          match f.count with
          | none =>
            if b = 0 then .complete { stamp := f.stamp, buffer := [], malformed := false }
            else .opened { f with count := some b.toNat }
          | some n =>
            let buffer := if f.taken < 32 then f.buffer ++ [b] else f.buffer
            if f.taken + 1 < n then .opened { f with taken := f.taken + 1, buffer := buffer }
            else .complete { stamp := f.stamp, buffer := buffer, malformed := decide (32 < n) }
        exec (.receivedFrameByte b) s = .next (settleLamps { s with air := { s.air with reception := after } })) ∧
      (20 ≤ (s.time - f.stamp).toNat →
        exec .frameTimeout s = .next (settleLamps { s.frameClosed with counters := counted }))) ∧
    (∀ (f : CompleteFrame) (t : State), s.air.reception = .complete f → exec .receivedFrame s = .next t →
      exec .sync s = exec .sync t ∧ ∀ b : Byte, exec (.receivedFrameByte b) s = exec (.receivedFrameByte b) t)

/-- A completed frame that fails a check is discarded and counted by that check, own id also setting the clash flag; without
a valid configuration it is discarded without checks or counting (R27, R28, R29, R45). With the frame closed, a transmitter
in SENSE may find the channel clear, and does so before the frame acts, the model's reading, log entry 30. -/
def Obligations.RefusedFramesAreCounted : Prop :=
  ∀ (s : State) (f : CompleteFrame), s.air.reception = .complete f →
    (s.loading = true ∨ s.holds.lockout = .config →
      exec .receivedFrame s = .next (settleLamps s.frameClosed)) ∧
    (s.loading = false → s.holds.lockout ≠ .config →
      let byte := fun i => (f.buffer.getD i 0).toNat
      let kind := byte 0 / 16
      let n := f.buffer.length
      let short := f.malformed = true ∨ n = 0 ∨ (kind = 1 ∧ n ≠ 17) ∨ (kind = 2 ∧ n ≠ 6) ∨ (kind = 3 ∧ n ≠ 7) ∨ n < 3
      let crcBad := f.buffer.drop (n - 2) ≠ twoBytes (crc (f.buffer.take (n - 2))).toNat
      let reserved := byte 1 / 8 = 0 ∨ byte 1 / 8 = 31 ∨
        (kind = 1 ∧ (6 ≤ byte 6 / 32 ∨ byte 11 / 16 % 4 = 3)) ∨ (kind = 3 ∧ byte 3 / 64 = 0)
      (short → exec .receivedFrame s = .next (settleLamps
        { s.frameClosed with
          counters := { s.counters with malformed := min (s.counters.malformed + 1) 65535 } })) ∧
      (¬short → crcBad → exec .receivedFrame s = .next (settleLamps
        { s.frameClosed with
          counters := { s.counters with crcError := min (s.counters.crcError + 1) 65535 } })) ∧
      (¬short → ¬crcBad → (kind = 0 ∨ 4 ≤ kind) → exec .receivedFrame s = .next (settleLamps
        { s.frameClosed with
          counters := { s.counters with unknownKind := min (s.counters.unknownKind + 1) 65535 } })) ∧
      (¬short → ¬crcBad → 1 ≤ kind → kind ≤ 3 → reserved → exec .receivedFrame s = .next (settleLamps
        { s.frameClosed with
          counters := { s.counters with malformed := min (s.counters.malformed + 1) 65535 } })) ∧
      (¬short → ¬crcBad → 1 ≤ kind → kind ≤ 3 → ¬reserved → byte 1 / 8 = s.ownId →
        exec .receivedFrame s = .next (settleLamps
          { s.frameClosed with
            air := { s.frameClosed.air with clash := true }
            counters := { s.counters with idClash := min (s.counters.idClash + 1) 65535 } })))

/-- BEACON_DUE: the due time makes a beacon wait and is spent. ARBITER_GRANT: with the transmitter idle, the first
waiting class in the rotation is granted and goes to its end; the grant to BEACON spends both of its requests, the grant
to ASK marks the outstanding ask, the grant to OBJECT takes the oldest entry not in hand; SENSE is entered with no busy
attempt, and BACKOFF at once on a clear channel, for a draw mod 8 slots of 4 ms (R30, R32, R33, R35, R36, R37, R38).
That a beacon once due stays so until the grant, the mark on a granted ask, and where the 500 ms of a held BUSY line start,
are the model's reading, log entries 11, 12 and 35. -/
def Obligations.WaitingClassesAreGranted : Prop :=
  ∀ s : State,
    ((s.classWaits .object = true ↔ ∃ e ∈ s.narrow.queue, e.inHand = false) ∧
     (s.classWaits .ask = true ↔ s.mode ≠ .lockout ∧ ∃ r ∈ s.narrow.records, r.ask = .outstanding false) ∧
     (s.classWaits .beacon = true ↔
       (s.loading = false ∧ s.holds.lockout ≠ .config) ∧ (s.air.beaconDue = true ∨ s.air.beaconNow = true))) ∧
    (∀ t : Timer, s.loading = false → s.holds.lockout ≠ .config → s.air.beaconTimer = some t →
      t.period ≤ (s.time - t.start).toNat →
      exec .beaconDue s =
        .next (settleLamps { s with air := { s.air with beaconDue := true, beaconTimer := none } })) ∧
    (s.air.transmitter = .idle → (∀ c ∈ s.air.rotation, s.classWaits c = false) → exec .arbiterGrant s = .next s) ∧
    (∀ (first : List FrameClass) (c : FrameClass) (rest : List FrameClass), s.air.transmitter = .idle →
      s.air.rotation = first ++ c :: rest → s.RotationSound → (∀ x ∈ first, s.classWaits x = false) →
      s.classWaits c = true →
      let clear := s.air.busy = false ∧ s.air.reception.isOpen = false
      let drawn := jitterStep s.air.jitter
      exec .arbiterGrant s = .next (settleLamps
        { s with
          air := { s.air with
            rotation := first ++ rest ++ [c]
            beaconNow := if c = .beacon then false else s.air.beaconNow
            beaconDue := if c = .beacon then false else s.air.beaconDue
            jitter := if clear then drawn else s.air.jitter
            transmitter :=
              if clear then .backoff c 0 { start := s.time, period := drawn.toNat % 8 * 4 }
              else .sense c 0 (if s.air.busy then some s.time else none) }
          narrow := { s.narrow with
            queue := if c = .object then takeInHand s.narrow.queue else s.narrow.queue
            records :=
              if c = .ask then
                s.narrow.records.map (fun r => if r.ask = .outstanding false then { r with ask := .outstanding true } else r)
              else s.narrow.records } })) ∧
    (∀ (before : List AnswerEntry) (e : AnswerEntry) (after : List AnswerEntry),
      (∀ x ∈ before, x.inHand = true) → e.inHand = false →
      takeInHand (before ++ e :: after) = before ++ { e with inHand := true } :: after)

/-- What a frame dropped at its eighth busy attempt leaves: the transmitter idle, and a beacon counted with the next one
scheduled, an ask counted and its report given to the Narrow Unit, or the answers in hand waiting again (R34, R39). The reports
to a running round: an ask handed is counted, and below n_ask the next is scheduled an ask interval and a draw mod 32 ahead,
else the window end is set W_ans ahead; an ask dropped is scheduled again uncounted; in LOCKOUT, and where no round waits for
the report, nothing changes (R142, R152; the last is the model's reading, log entry 12). -/
def Obligations.TransmitOutcomesReachTheirUnits : Prop :=
  (∀ s : State,
      (dropFrame .beacon s =
        scheduleBeacon (if s.mode = .parked then 40 * s.cfg.pB else 10 * s.cfg.pB)
          { s with
            air := { s.air with transmitter := .idle }
            counters := { s.counters with beaconDropped := min (s.counters.beaconDropped + 1) 65535 } }) ∧
      (dropFrame .ask s =
        askDroppedReport
          { s with
            air := { s.air with transmitter := .idle }
            counters := { s.counters with askDropped := min (s.counters.askDropped + 1) 65535 } }) ∧
      (dropFrame .object s =
        { s with
          air := { s.air with transmitter := .idle }
          narrow := { s.narrow with queue := s.narrow.queue.map (fun e => { e with inHand := false }) } }) ∧
      (∀ period : Nat, scheduleBeacon period s =
        { s with air := { s.air with
          jitter := jitterStep s.air.jitter
          beaconTimer := some
            { start := s.time, period := 7 * period / 8 + (jitterStep s.air.jitter).toNat % (period / 4 + 1) } } })) ∧
  (∀ s : State,
      let waits := fun r : NarrowRecord =>
        decide (r.ask = .outstanding true) &&
          (decide (r.relation = .asking) || (decide (r.relation = .waiting) && decide (r.phase = some .contesting)))
      (s.mode = .lockout ∨ s.narrow.records.findIdx? waits = none →
        askHandedReport s = s ∧ askDroppedReport s = s) ∧
      (∀ i : Nat, s.mode ≠ .lockout → s.narrow.records.findIdx? waits = some i →
        let r := s.narrowRecord i
        let drawn := jitterStep s.air.jitter
        let again : AskState := .scheduled { start := s.time, period := s.cfg.askInterval + drawn.toNat % 32 }
        askHandedReport s =
          (if r.asksSent + 1 < s.cfg.nAsk then
            { s with
              air := { s.air with jitter := drawn }
              narrow := { s.narrow with
                records := s.narrow.records.set i { r with asksSent := r.asksSent + 1, ask := again } } }
          else
            { s with narrow := { s.narrow with
              records := s.narrow.records.set i
                { r with
                  asksSent := r.asksSent + 1, ask := .none
                  windowEnd := some { start := s.time, period := s.cfg.wAns } } } }) ∧
        askDroppedReport s =
          { s with
            air := { s.air with jitter := drawn }
            narrow := { s.narrow with records := s.narrow.records.set i { r with ask := again } } }))

/-- Carrier sense: BUSY asserted during BACKOFF, a SYNC during BACKOFF, and BUSY held for 500 ms in SENSE are each one
busy attempt; an attempt below the eighth returns to SENSE with its count kept and the 500 ms measured afresh, the
eighth drops the frame; BUSY gone clear in SENSE with no frame open draws afresh and enters BACKOFF (R37, R38, R39). A
level the line already has, and where the 500 ms start, are the model's, log entries 32 and 35. -/
def Obligations.BusyAttemptsAreCounted : Prop :=
  ∀ s : State,
    (∀ b : Bool, b = s.air.busy → exec (.busyChange b) s = .next (settleLamps s)) ∧
    (∀ b : Bool, b ≠ s.air.busy →
      (s.air.transmitter = .idle ∨ ∃ c f h, s.air.transmitter = .send c f h) →
      exec (.busyChange b) s = .next (settleLamps { s with air := { s.air with busy := b } })) ∧
    (∀ (c : FrameClass) (n : Nat) (slots : Timer), s.air.transmitter = .backoff c n slots →
      (s.air.busy = true →
        exec (.busyChange false) s = .next (settleLamps { s with air := { s.air with busy := false } })) ∧
      (s.air.busy = false →
        exec (.busyChange true) s = .next (settleLamps
          (if n < 7 then { s with air := { s.air with busy := true, transmitter := .sense c (n + 1) (some s.time) } }
          else dropFrame c { s with air := { s.air with busy := true } }))) ∧
      (s.air.reception = .closed →
        let opened : Reception := .opened { stamp := s.time, count := none, taken := 0, buffer := [] }
        exec .sync s = .next (settleLamps
          (if n < 7 then
            { s with air := { s.air with
              reception := opened
              transmitter := .sense c (n + 1) (if s.air.busy then some s.time else none) } }
          else dropFrame c { s with air := { s.air with reception := opened } })))) ∧
    (∀ (c : FrameClass) (n : Nat) (since : Option Time), s.air.transmitter = .sense c n since →
      (s.air.busy = false →
        exec (.busyChange true) s = .next (settleLamps
          { s with air := { s.air with busy := true, transmitter := .sense c n (some s.time) } })) ∧
      (s.air.busy = true →
        exec (.busyChange false) s = .next (settleLamps
          (if s.air.reception.isOpen then
            { s with air := { s.air with busy := false, transmitter := .sense c n none } }
          else
            { s with air := { s.air with
              busy := false, jitter := jitterStep s.air.jitter
              transmitter :=
                .backoff c n { start := s.time, period := (jitterStep s.air.jitter).toNat % 8 * 4 } } }))) ∧
      (∀ start : Time, since = some start → 500 ≤ (s.time - start).toNat →
        exec .busyAttemptTimeout s = .next (settleLamps
          (if n < 7 then
            { s with air := { s.air with
              transmitter := .sense c (n + 1) (if s.air.busy then some s.time else none) } }
          else dropFrame c s))))

/-- BACKOFF_END on a clear channel builds the frame of the granted class from the state at that moment and enters SEND: a
BEACON from the step sample with the sequence and the FIRST count moved on, an ASK still outstanding in a running round, an
OBJECT whose reason stands; the module gets the count byte and then the frame bytes; an ask or an answer that does not stand
is not sent (R21, R37, R40, R41, R42, R43, R44, R151, R152). -/
def Obligations.FramesAreBuiltAtTheMomentOfSending : Prop :=
  ∀ (s : State) (c : FrameClass) (n : Nat) (slots : Timer), s.air.transmitter = .backoff c n slots →
    slots.period ≤ (s.time - slots.start).toNat → s.air.busy = false → s.air.reception.isOpen = false →
    (c = .beacon →
      let sample : StepSample :=
        match s.air.sample with
        | some x => x
        | none =>
          { front := s.road.posUm / 1000, direction := s.road.direction, quality := s.road.quality, speed := 0
            braking := false, time := s.time }
      let related := s.narrow.records.findIdx? (fun r => decide (r.relation ≠ .none))
      let beacon : Beacon :=
        { first := decide (0 < s.air.firstCount), braking := sample.braking, sender := s.ownId
          direction := sample.direction, quality := sample.quality, sequence := s.air.sequence
          lead := min (s.time - sample.time).toNat 255, front := sample.front, mode := s.mode, speed := sample.speed
          memberIndex := s.spacing.memberIndex, rigLength := s.road.rigLength, convoyId := s.spacing.convoyId
          narrow := match related with | none => 0 | some i => i
          relation := match related with | none => .none | some i => (s.narrowRecord i).relation
          orderCode := s.order.code, orderSeq := s.order.seq
          waitAge := match related with | none => 0 | some i => (s.narrowRecord i).waitAge
          orderHop := s.order.hop, period := if s.mode = .parked then 4 * s.cfg.pB else s.cfg.pB }
      exec .backoffEnd s = .next (settleLamps
        { s with air := { s.air with
          transmitter := .send .beacon (17 :: beaconBytes beacon) none
          sequence := s.air.sequence + 1, firstCount := s.air.firstCount - 1 } })) ∧
    (c = .ask →
      let waits := fun r : NarrowRecord =>
        decide (r.ask = .outstanding true) &&
          (decide (r.relation = .asking) || (decide (r.relation = .waiting) && decide (r.phase = some .contesting)))
      (∀ i : Nat, s.mode ≠ .lockout → s.narrow.records.findIdx? waits = some i →
        exec .backoffEnd s = .next (settleLamps
          { s with air := { s.air with
            transmitter := .send .ask
              (6 :: askBytes
                { sender := s.ownId, direction := s.road.direction, narrow := i, waitAge := (s.narrowRecord i).waitAge })
              none } })) ∧
      (s.mode = .lockout ∨ s.narrow.records.findIdx? waits = none →
        exec .backoffEnd s = .next (settleLamps { s with air := { s.air with transmitter := .idle } }))) ∧
    (c = .object →
      ∀ (before : List AnswerEntry) (e : AnswerEntry) (after : List AnswerEntry),
        s.narrow.queue = before ++ e :: after → (∀ x ∈ before, x.inHand = false) → e.inHand = true →
        let r := s.narrowRecord e.narrow
        let stands := e.askerDirection ≠ s.road.direction ∧
          (r.relation = .holding ∨
            ((r.relation = .asking ∨ r.relation = .waiting) ∧
              (e.askerWaitAge < r.waitAge ∨ (r.waitAge = e.askerWaitAge ∧ s.ownId < e.askerId))))
        (stands → exec .backoffEnd s = .next (settleLamps
          { s with
            air := { s.air with
              transmitter := .send .object
                (7 :: objectBytes
                  { sender := s.ownId, direction := s.road.direction, target := e.askerId, narrow := e.narrow
                    relation := r.relation, waitAge := r.waitAge })
                none }
            narrow := { s.narrow with queue := before ++ after } })) ∧
        (¬stands → exec .backoffEnd s = .next (settleLamps
          { s with
            air := { s.air with transmitter := .idle }
            narrow := { s.narrow with queue := before ++ after }
            counters := { s.counters with answerWithdrawn := min (s.counters.answerWithdrawn + 1) 65535 } })))

/-- FRAME_HANDED notes the handing, schedules the next beacon after a beacon and reports an ask; the report of the
module, a byte of value 1 with no frame open, makes the transmitter idle; 50 ms without it do so too and are counted
(R21, R34, R44, R45). That TRANSMIT_REPORT is that byte is the model's reading, log entry 24. -/
def Obligations.SentFramesAreHandedAndReported : Prop :=
  ∀ (s : State) (c : FrameClass) (bytes : List Byte),
    (s.air.transmitter = .send c bytes none →
      let s1 := { s with air := { s.air with transmitter := .send c bytes (some s.time) } }
      exec .frameHanded s = .next (settleLamps (match c with
        | .beacon => scheduleBeacon (if s.mode = .parked then 40 * s.cfg.pB else 10 * s.cfg.pB) s1
        | .ask => askHandedReport s1
        | .object => s1))) ∧
    (∀ handed : Time, s.air.transmitter = .send c bytes (some handed) →
      (s.air.reception = .closed →
        exec .transmitReport s = .next (settleLamps { s with air := { s.air with transmitter := .idle } }) ∧
        exec (.receivedFrameByte 1) s = .next (settleLamps { s with air := { s.air with transmitter := .idle } }) ∧
        ∀ b : Byte, b ≠ 1 → exec (.receivedFrameByte b) s = .next (settleLamps s)) ∧
      (50 ≤ (s.time - handed).toNat →
        exec .radioTimeout s = .next (settleLamps
          { s with
            air := { s.air with transmitter := .idle }
            counters := { s.counters with radioTimeout := min (s.counters.radioTimeout + 1) 65535 } })))

/-! ### The Peer Table -/

/-- An accepted BEACON: one of a held id passes the sequence test and replaces its record, or is counted as old; one of an id
not held is inserted while there is room. The record carries the beacon's fields with its arrival stamp, the table keeps the
road order, and the write is noticed (R29, R47, R48, R50, R51, R52, R53, R59; a transmitter in SENSE: log entry 30). -/
def Obligations.BeaconsWriteTheTable : Prop :=
  ∀ (s : State) (f : CompleteFrame) (b : Beacon), s.air.reception = .complete f →
    s.loading = false → s.holds.lockout ≠ .config → checkFrame s.ownId f.malformed f.buffer = .accepted (.beacon b) →
    s.TableSound →
    let p : PeerRecord :=
      { id := b.sender, lastSequence := b.sequence, stamp := f.stamp, lead := b.lead, position := b.front
        direction := b.direction, quality := b.quality, speed := b.speed, braking := b.braking, rigLength := b.rigLength
        mode := b.mode, convoyId := b.convoyId, memberIndex := b.memberIndex, period := 10 * b.period
        narrowPart :=
          if b.relation = .none then none else some { index := b.narrow, relation := b.relation, waitAge := b.waitAge }
        orderPart :=
          if b.orderCode = .none then none else some { code := b.orderCode, seq := b.orderSeq, hop := b.orderHop }
        first := b.first }
    let written :=
      ∃ records : List PeerRecord,
        (∀ r, r ∈ records ↔ r = p ∨ (r ∈ s.peers.records ∧ r.id ≠ b.sender)) ∧
        records.Pairwise (fun x y => x.position < y.position ∨ (x.position = y.position ∧ x.id < y.id)) ∧
        exec .receivedFrame s = .next (settleLamps (writeNotice p
          { s.frameClosed with peers := { s.peers with records := records } }))
    (∀ held ∈ s.peers.records, held.id = b.sender →
      let ahead := (b.sequence - held.lastSequence).toNat
      (b.first = true ∨ (1 ≤ ahead ∧ ahead ≤ 127) → written) ∧
      (b.first = false → ahead = 0 ∨ 128 ≤ ahead →
        exec .receivedFrame s = .next (settleLamps
          { s.frameClosed with
            counters := { s.counters with oldSequence := min (s.counters.oldSequence + 1) 65535 } }))) ∧
    ((∀ r ∈ s.peers.records, r.id ≠ b.sender) → s.peers.records.length < 16 → written)

/-- A BEACON of an id not held meets a full table. The victim is the record of the highest class, farthest off, and of the
highest id among equals; a newcomer of a higher class, or of the same class and no nearer, is dropped and counted, and else it
replaces the victim, in road order (R54, R55, R56, R64; a transmitter in SENSE: log entry 30). -/
def Obligations.FullTableWeighsTheNewcomer : Prop :=
  ∀ (s : State) (f : CompleteFrame) (b : Beacon) (victim : PeerRecord),
    s.air.reception = .complete f → s.loading = false → s.holds.lockout ≠ .config →
    checkFrame s.ownId f.malformed f.buffer = .accepted (.beacon b) → s.TableSound → s.peers.records.length = 16 →
    (∀ r ∈ s.peers.records, r.id ≠ b.sender) → victim ∈ s.peers.records →
    let front := s.road.posUm / 1000
    let rear : PeerRecord → Int := fun r =>
      match r.direction with
      | .up => (r.position : Int) - r.rigLength
      | .down => (r.position : Int) + r.rigLength
    let freshClass := fun r : PeerRecord =>
      if s.cfg.wAhead ≠ 0 ∧ s.road.quality ≠ .unknown ∧ r.direction = s.road.direction ∧
        (match s.road.direction with
         | .up => decide (front < r.position ∧ rear r ≤ front + s.cfg.wAhead)
         | .down => decide (r.position < front ∧ (front : Int) - s.cfg.wAhead ≤ rear r)) = true then 0
      else if r.narrowPart.isSome then 1
      else if r.direction = s.road.direction then 2
      else 3
    let relevance := fun r : PeerRecord => if (s.time - r.stamp).toNat ≤ 3 * r.period then freshClass r else 4
    let distance := fun r : PeerRecord =>
      if s.road.quality = .unknown then r.position else ((r.position : Int) - front).natAbs
    (∀ r ∈ s.peers.records, r ≠ victim →
      relevance r < relevance victim ∨
        (relevance r = relevance victim ∧
          (distance r < distance victim ∨ (distance r = distance victim ∧ r.id < victim.id)))) →
    let p := recordOf b f.stamp
    let dropped := relevance victim < freshClass p ∨ (freshClass p = relevance victim ∧ distance victim ≤ distance p)
    (dropped → exec .receivedFrame s = .next (settleLamps
      { s.frameClosed with
        counters := { s.counters with tableFull := min (s.counters.tableFull + 1) 65535 } })) ∧
    (¬dropped → ∃ records : List PeerRecord,
      (∀ r, r ∈ records ↔ r = p ∨ (r ∈ s.peers.records ∧ r ≠ victim)) ∧
      records.Pairwise (fun x y => x.position < y.position ∨ (x.position = y.position ∧ x.id < y.id)) ∧
      exec .receivedFrame s = .next (settleLamps (writeNotice p
        { s.frameClosed with peers := { s.peers with records := records } })))

/-- SWEEP removes every record older than ten of its sender's periods, changes nothing else, and starts its next 100 ms where
the last ended (R57; that the period runs on from its end is the model's reading, log entry 27). -/
def Obligations.SweepRemovesOldRecords : Prop :=
  ∀ s : State, 100 ≤ (s.time - s.peers.sweepTimer).toNat →
    exec .sweep s = .next (settleLamps
      { s with peers :=
        { records := s.peers.records.filter (fun r => decide ((s.time - r.stamp).toNat ≤ 10 * r.period))
          sweepTimer := s.peers.sweepTimer + 100 } })

/-- A record write notice reaches its three readers. Where one of them alone acts: the return of the lost peer releases
LINK_LOSS (R81); an order part of the own convoy from a lower index, newer than the order held, is adopted and acted on, and
an unsynchronised station takes it without acting (R165); an opposing HOLDING with a narrow that is held gives the lower
priority way before its stop line, or is counted once as a conflict where both are past it (R147). Where none acts nothing
but the choice of an order changes (R59; log entry 5). -/
def Obligations.WriteNoticesReachTheirReaders : Prop :=
  ∀ (s : State) (p : PeerRecord),
    let counted := { s with freeCount := s.freeCount + 1 }
    let lost := s.spacing.lostId ≠ 0 ∧ p.id = s.spacing.lostId
    (¬lost → p.orderPart = none → p.narrowPart = none → writeNotice p s = counted) ∧
    (lost → p.orderPart = none → p.narrowPart = none →
      writeNotice p s = releaseHold .linkLoss { counted with spacing := { s.spacing with lostId := 0 } }) ∧
    (∀ part : OrderPart, ¬lost → p.narrowPart = none → p.orderPart = some part →
      let eligible := p.direction = s.road.direction ∧ p.convoyId = s.spacing.convoyId ∧
        p.memberIndex < s.spacing.memberIndex ∧ s.mode ≠ .lockout
      let ahead := ((part.seq : Int) - s.order.seq) % 16
      let taken :=
        { counted with order := { s.order with
          code := part.code, seq := part.seq, hop := min (part.hop + 1) 15, origin := p.convoyId
          unsynchronised := false } }
      (¬eligible → writeNotice p s = counted) ∧
      (eligible → s.order.unsynchronised = true → writeNotice p s = taken) ∧
      (eligible → s.order.unsynchronised = false → 1 ≤ ahead → ahead ≤ 7 →
        writeNotice p s = (match part.code with
          | .none => taken
          | .stopAll => pushHold .convoyStop none taken
          | .resumeAll => releaseHold .linkLoss (releaseHold .convoyStop taken))) ∧
      (eligible → s.order.unsynchronised = false → ahead = 0 ∨ 8 ≤ ahead → writeNotice p s = counted)) ∧
    (∀ (part : NarrowPart) (e : NarrowEntry), ¬lost → p.orderPart = none → p.narrowPart = some part →
      s.cfg.narrows[part.index]? = some e → e.disabled = none →
      let r := s.narrowRecord part.index
      let contested := p.direction ≠ s.road.direction ∧ part.relation = .holding ∧ r.relation = .holding ∧ s.mode ≠ .lockout
      let theirsHigher := r.waitAge < part.waitAge ∨ (part.waitAge = r.waitAge ∧ p.id < s.ownId)
      let past := fun (d : Direction) (front : Nat) =>
        match d with
        | .up => (e.lo : Int) - s.cfg.dStop < front
        | .down => (front : Int) < e.hi + s.cfg.dStop
      let ownPast := past s.road.direction (s.road.posUm / 1000)
      let givesWay := r.inherited = false ∧ theirsHigher ∧ ¬ownPast
      (¬contested → writeNotice p s = counted) ∧
      (contested → givesWay → writeNotice p s = enterWaiting part.index counted) ∧
      (contested → ¬givesWay → ownPast → past p.direction p.position → r.conflictSeen = false →
        writeNotice p s =
          { counted with
            narrow := { s.narrow with records := s.narrow.records.set part.index { r with conflictSeen := true } }
            counters := { s.counters with narrowConflict := min (s.counters.narrowConflict + 1) 65535 } }) ∧
      (contested → ¬givesWay → ¬ownPast ∨ ¬past p.direction p.position ∨ r.conflictSeen = true →
        writeNotice p s = counted))

/-! ### Narrows -/

/-- The changes of a relation outside START and LOCKOUT, each with its companions. Into WAITING: phase DEFERRED, the round
over, the wait-age timer started, NARROW_WAIT pushed (or, where that push overruns the stack, a lockout and no change of the
relation), a beacon now out of HOLDING. Into HOLDING: a beacon now, NARROW_WAIT released out of WAITING. Into ASKING: a round
with its first ask at once and a beacon now. Into NONE: NARROW_WAIT released out of WAITING, a beacon now out of HOLDING
(R120, R140, R148, R149). -/
def Obligations.RelationChangesHaveTheirCompanions : Prop :=
  ∀ (s : State) (i : Nat) (r : NarrowRecord), s.narrow.records[i]? = some r → s.mode ≠ .start → s.mode ≠ .lockout →
    let only := fun (t : State) (new : NarrowRecord) =>
      t.narrow.records = s.narrow.records.set i new ∧ t.narrow.queue = s.narrow.queue
    ((s.holds.has .narrowWait = true ∨ s.holds.stack.length < 4) →
      let t := enterWaiting i s
      only t
        { r with
          relation := .waiting, phase := some .deferred, ask := .none, windowEnd := none, inherited := false
          conflictSeen := false } ∧
      t.narrow.waitAgeTimer = some s.time ∧ t.holds.unreleased .narrowWait = true ∧ (t.mode = .wait ∨ t.mode = .halt) ∧
      t.air.beaconNow = (s.air.beaconNow || decide (r.relation = .holding))) ∧
    (s.holds.has .narrowWait = false → 4 ≤ s.holds.stack.length →
      let t := enterWaiting i s
      t.narrow = s.narrow ∧ t.mode = .lockout ∧ t.holds = { s.holds with lockout := .holdOverrun }) ∧
    (∀ inherited : Bool,
      let t := enterHolding i inherited s
      only t
        { r with
          relation := .holding, phase := none, ask := .none, windowEnd := none, inherited := inherited
          conflictSeen := false } ∧
      t.air.beaconNow = true ∧
      (r.relation = .waiting → t.holds.unreleased .narrowWait = false) ∧
      (r.relation ≠ .waiting → t.holds = s.holds)) ∧
    (enterAsking i s =
      { s with
        narrow := { s.narrow with
          records := s.narrow.records.set i
            { r with
              relation := .asking, phase := none, asksSent := 0, ask := .scheduled { start := s.time, period := 0 }
              windowEnd := none, waitAge := 0 } }
        air := { s.air with beaconNow := true } }) ∧
    (r.relation ≠ .none →
      let t := dropRelation i s
      only t
        { r with
          relation := .none, phase := none, ask := .none, windowEnd := none, waitAge := 0, inherited := false
          conflictSeen := false } ∧
      t.air.beaconNow = (s.air.beaconNow || decide (r.relation = .holding)) ∧
      (r.relation = .waiting → t.holds.unreleased .narrowWait = false) ∧
      (r.relation ≠ .waiting → t.holds = s.holds))

/-- A step of the Narrow Unit in LOCKOUT takes the turn-pending flag and nothing else (R152); otherwise, with no narrow
ahead or inside, a turn drops every relation, and without a turn every relation with a narrow that is left or far back
(R136, R137). A rig found inside an enabled narrow it does not hold, and one that takes a turn inside a narrow, takes HOLDING
not inherited, drops every other relation, asks for a beacon now and is counted (R137, R138). A HOLDING relation with a narrow
that is neither left nor far back is kept, also where the narrow is no longer ahead, and the step does nothing else (R137;
other relations: Obligations.ClaimsStartAhead). A relation dropped while another narrow is ahead leaves that one to be
inherited or claimed in the same step (R137, R139, R140). Where the next 20 ms start is the model's reading, log entry 27. -/
def Obligations.NarrowStepDropsAndTakesEntries : Prop :=
  (∀ (s : State) (start : Time), s.loading = false → s.holds.lockout ≠ .config → s.narrow.stepTimer = some start →
      20 ≤ (s.time - start).toNat →
      (s.mode = .lockout → exec .narrowStep s = .next (settleLamps
        { s with road := { s.road with turnNarrow := false }, narrow := { s.narrow with stepTimer := some (start + 20) } })) ∧
      (s.mode ≠ .lockout → s.RelationsSound →
        (∀ e ∈ s.cfg.narrows, e.disabled = none →
          isAhead s.cfg e s.road.direction s.front = false ∧ isInside e s.road.direction s.front s.rear = false) →
        (s.road.turnNarrow = true ∨ ∀ e ∈ s.cfg.narrows, e.disabled = none →
          hasLeft e s.road.direction s.rear = true ∨ isFarBack s.cfg e s.road.direction s.front = true) →
        ∃ t, exec .narrowStep s = .next t ∧ (∀ r ∈ t.narrow.records, r.relation = .none) ∧
          t.narrow.stepTimer = some (start + 20) ∧ t.narrow.queue = s.narrow.queue ∧
          t.road = { s.road with turnNarrow := false } ∧ t.peers = s.peers ∧ t.order = s.order ∧ t.handset = s.handset ∧
          t.counters = s.counters ∧ t.config = s.config ∧ t.time = s.time)) ∧
  (∀ (s : State) (start : Time) (i : Nat) (e : NarrowEntry), s.loading = false → s.mode ≠ .lockout →
      s.narrow.stepTimer = some start → 20 ≤ (s.time - start).toNat → s.RouteSound →
      s.RelationsSound → s.PairingSound → s.cfg.narrows[i]? = some e → e.disabled = none →
      isInside e s.road.direction s.front s.rear = true →
      s.road.turnNarrow = true ∨ (s.narrowRecord i).relation ≠ .holding →
      ∃ t, exec .narrowStep s = .next t ∧ (t.narrowRecord i).relation = .holding ∧ (t.narrowRecord i).inherited = false ∧
        (t.narrowRecord i).waitAge =
          (if s.road.turnNarrow = true ∧ (s.narrowRecord i).relation ≠ .none then 0 else (s.narrowRecord i).waitAge) ∧
        (∀ j < t.narrow.records.length, j ≠ i → (t.narrowRecord j).relation = .none) ∧ t.air.beaconNow = true ∧
        t.holds.unreleased .narrowWait = false ∧ t.road = { s.road with turnNarrow := false } ∧
        t.counters = { s.counters with unclaimedEntry := min (s.counters.unclaimedEntry + 1) 65535 }) ∧
  (∀ (s : State) (start : Time) (i : Nat) (e : NarrowEntry), s.loading = false → s.mode ≠ .lockout →
      s.narrow.stepTimer = some start → 20 ≤ (s.time - start).toNat → s.road.turnNarrow = false → s.RouteSound →
      s.RelationsSound → s.cfg.narrows[i]? = some e → (s.narrowRecord i).relation = .holding →
      hasLeft e s.road.direction s.rear = false → isFarBack s.cfg e s.road.direction s.front = false →
      (∀ (j : Nat) (x : NarrowEntry), j ≠ i → s.cfg.narrows[j]? = some x → x.disabled = none →
        isInside x s.road.direction s.front s.rear = false) →
      exec .narrowStep s = .next (settleLamps { s with narrow := { s.narrow with stepTimer := some (start + 20) } })) ∧
  (∀ (s : State) (start : Time) (i j : Nat) (e : NarrowEntry) (r : NarrowRecord), s.loading = false → s.mode ≠ .lockout →
      s.narrow.stepTimer = some start → 20 ≤ (s.time - start).toNat → s.road.turnNarrow = false →
      s.RelationsSound → s.PairingSound → s.StackSound → s.cfg.narrows[i]? = some e → (s.narrowRecord i).relation ≠ .none →
      hasLeft e s.road.direction s.rear = true ∨ isFarBack s.cfg e s.road.direction s.front = true →
      s.narrowAhead = some j → j ≠ i → s.narrow.records[j]? = some r →
      (∀ x ∈ s.cfg.narrows, x.disabled = none → isInside x s.road.direction s.front s.rear = false) →
      let opposing := s.peers.records.filter fun x =>
        decide ((s.time - x.stamp).toNat ≤ 3 * x.period) && decide (x.direction ≠ s.road.direction)
      let shows := fun rel : Relation => ∃ x ∈ opposing, ∃ p ∈ x.narrowPart, p.index = j ∧ p.relation = rel
      let inherits := s.spacing.role = .follow ∧ ∃ x ∈ s.predecessorRecord, (s.time - x.stamp).toNat ≤ 3 * x.period ∧
        x.direction = s.road.direction ∧ x.convoyId = s.spacing.convoyId ∧
        ∃ p ∈ x.narrowPart, p.index = j ∧ p.relation = .holding
      let claims := s.mode ≠ .parked ∧ s.road.quality ≠ .unknown
      ∃ t, exec .narrowStep s = .next t ∧ t.narrow.stepTimer = some (start + 20) ∧ t.narrow.queue = s.narrow.queue ∧
        t.counters = s.counters ∧ (∀ k, k ≠ j → (t.narrowRecord k).relation = .none) ∧
        ((s.narrowRecord i).relation = .holding → t.air.beaconNow = true) ∧
        (inherits → (t.narrowRecord j).relation = .holding ∧ (t.narrowRecord j).inherited = true) ∧
        (¬inherits → ¬claims → t.narrow.records[j]? = some r ∧ t.holds.unreleased .narrowWait = false) ∧
        (¬inherits → claims → ¬shows .holding → ¬shows .waiting →
          (t.narrowRecord j).relation = .asking ∧ t.holds.unreleased .narrowWait = false) ∧
        (¬inherits → claims → shows .holding ∨ shows .waiting →
          s.holds.has .narrowWait = true ∨ s.holds.stack.length < 4 →
          (t.narrowRecord j).relation = .waiting ∧ t.holds.unreleased .narrowWait = true))

/-- A rig with no relation, and with a narrow ahead, claims it in the step: a FOLLOW whose fresh predecessor of the own
convoy and direction shows HOLDING inherits it; else, outside PARKED and LOCKOUT and with a known position, it asks, or
waits where an opposing record shows HOLDING or WAITING; a waiting rig that meets only lower waiters contests at once
(R139, R140, R141). A relation short of HOLDING that is neither left nor far back is kept (R137): an asker inherits the narrow
ahead in the same way, else waits where an opposing record shows HOLDING; a DEFERRED waiter contests where no record shows
HOLDING, ASKING or a higher WAITING; a CONTESTING one defers where a record shows HOLDING or a higher WAITING; and else the
step does nothing (R139, R141). Where the next 20 ms start, and a step that overruns, are the model's reading, log entries
27 and 28. -/
def Obligations.ClaimsStartAhead : Prop :=
  (∀ (s : State) (start : Time) (i : Nat) (r : NarrowRecord), s.loading = false → s.mode ≠ .lockout →
      s.narrow.stepTimer = some start → 20 ≤ (s.time - start).toNat → s.RelationsSound →
      (∀ x ∈ s.narrow.records, x.relation = .none) → s.narrow.records[i]? = some r → s.narrowAhead = some i →
      (∀ e ∈ s.cfg.narrows, e.disabled = none → isInside e s.road.direction s.front s.rear = false) →
      let opposing := s.peers.records.filter fun x =>
        decide ((s.time - x.stamp).toNat ≤ 3 * x.period) && decide (x.direction ≠ s.road.direction)
      let shows := fun rel : Relation => ∃ x ∈ opposing, ∃ p, x.narrowPart = some p ∧ p.index = i ∧ p.relation = rel
      let higher := ∃ x ∈ opposing, ∃ p, x.narrowPart = some p ∧ p.index = i ∧ p.relation = .waiting ∧
        (r.waitAge < p.waitAge ∨ (p.waitAge = r.waitAge ∧ x.id < s.ownId))
      let inherits := s.spacing.role = .follow ∧ ∃ q x p, s.spacing.predecessor = some q ∧
        s.peers.records.find? (fun x => decide (x.id = q.id)) = some x ∧ (s.time - x.stamp).toNat ≤ 3 * x.period ∧
        x.direction = s.road.direction ∧ x.convoyId = s.spacing.convoyId ∧ x.narrowPart = some p ∧ p.index = i ∧
        p.relation = .holding
      let claims := s.mode ≠ .parked ∧ s.road.quality ≠ .unknown
      ∃ t, exec .narrowStep s = .next t ∧ t.road = { s.road with turnNarrow := false } ∧
        t.narrow.stepTimer = some (start + 20) ∧ t.narrow.queue = s.narrow.queue ∧
        (∀ j, j ≠ i → t.narrow.records[j]? = s.narrow.records[j]?) ∧
        (inherits → (t.narrowRecord i).relation = .holding ∧ (t.narrowRecord i).inherited = true ∧
          t.air.beaconNow = true) ∧
        (¬inherits → ¬claims → t.narrow.records = s.narrow.records ∧ t.holds = s.holds ∧ t.air = s.air) ∧
        (¬inherits → claims → ¬shows .holding → ¬shows .waiting →
          (t.narrowRecord i).relation = .asking ∧ (t.narrowRecord i).asksSent = 0 ∧ (t.narrowRecord i).waitAge = 0 ∧
          (t.narrowRecord i).ask = .scheduled { start := s.time, period := 0 } ∧ t.air.beaconNow = true ∧
          t.holds = s.holds) ∧
        (¬inherits → claims → shows .holding ∨ shows .waiting →
          (s.holds.has .narrowWait = true ∨ s.holds.stack.length < 4) →
          (t.narrowRecord i).relation = .waiting ∧ t.holds.unreleased .narrowWait = true ∧
          t.narrow.waitAgeTimer = some s.time ∧
          (t.narrowRecord i).phase =
            if shows .holding ∨ shows .asking ∨ higher then some .deferred else some .contesting) ∧
        (¬inherits → claims → shows .holding ∨ shows .waiting →
          s.holds.has .narrowWait = false → 4 ≤ s.holds.stack.length →
          t.mode = .lockout ∧ t.narrow.records = s.narrow.records)) ∧
  (∀ (s : State) (start : Time) (i : Nat) (e : NarrowEntry) (r : NarrowRecord), s.loading = false → s.mode ≠ .lockout →
      s.narrow.stepTimer = some start → 20 ≤ (s.time - start).toNat → s.road.turnNarrow = false → s.RouteSound →
      s.RelationsSound → s.cfg.narrows[i]? = some e → s.narrow.records[i]? = some r →
      r.relation = .asking ∨ r.relation = .waiting →
      hasLeft e s.road.direction s.rear = false → isFarBack s.cfg e s.road.direction s.front = false →
      (∀ x ∈ s.cfg.narrows, x.disabled = none → isInside x s.road.direction s.front s.rear = false) →
      let opposing := s.peers.records.filter fun x =>
        decide ((s.time - x.stamp).toNat ≤ 3 * x.period) && decide (x.direction ≠ s.road.direction)
      let shows := fun rel : Relation => ∃ x ∈ opposing, ∃ p ∈ x.narrowPart, p.index = i ∧ p.relation = rel
      let higher := ∃ x ∈ opposing, ∃ p ∈ x.narrowPart, p.index = i ∧ p.relation = .waiting ∧
        (r.waitAge < p.waitAge ∨ (p.waitAge = r.waitAge ∧ x.id < s.ownId))
      let inherits := s.narrowAhead = some i ∧ s.spacing.role = .follow ∧ ∃ x ∈ s.predecessorRecord,
        (s.time - x.stamp).toNat ≤ 3 * x.period ∧ x.direction = s.road.direction ∧ x.convoyId = s.spacing.convoyId ∧
        ∃ p ∈ x.narrowPart, p.index = i ∧ p.relation = .holding
      let s1 := { s with narrow := { s.narrow with stepTimer := some (start + 20) } }
      let written := fun new : NarrowRecord =>
        { s1 with narrow := { s1.narrow with records := s.narrow.records.set i new } }
      exec .narrowStep s = .next (settleLamps
        (if r.relation = .asking then
          if inherits then enterHolding i true s1 else if shows .holding then enterWaiting i s1 else s1
        else if r.phase = some .deferred ∧ ¬(shows .holding ∨ shows .asking ∨ higher) then
          written { r with
            phase := some .contesting, asksSent := 0, ask := .scheduled { start := s.time, period := 0 }, windowEnd := none }
        else if r.phase = some .contesting ∧ (shows .holding ∨ higher) then
          written { r with phase := some .deferred, ask := .none, windowEnd := none }
        else s1)))

/-- The timers of the Narrow Unit: ASK_DUE makes a scheduled ask outstanding; ANSWER_WINDOW_END gives the narrow to a
running round outside LOCKOUT; ANSWER_EXPIRY removes and counts the oldest answer not in hand that has waited W_ans;
WAIT_AGE_EXPIRY adds one, to at most 255, to the wait age of a WAITING relation outside LOCKOUT (R142, R143, R149, R151,
R152). That ASK_DUE acts in LOCKOUT, and where the next 100 ms start, are the model's reading, log entries 25 and 27. -/
def Obligations.NarrowTimersRunOut : Prop :=
  ∀ s : State,
    (∀ (before : List NarrowRecord) (r : NarrowRecord) (after : List NarrowRecord) (t : Timer),
      s.narrow.records = before ++ r :: after → r.ask = .scheduled t → t.period ≤ (s.time - t.start).toNat →
      (∀ x ∈ before, ∀ u, x.ask ≠ .scheduled u) →
      exec .askDue s = .next (settleLamps
        { s with narrow := { s.narrow with records := before ++ { r with ask := .outstanding false } :: after } })) ∧
    (∀ (before : List NarrowRecord) (r : NarrowRecord) (after : List NarrowRecord) (t : Timer),
      s.narrow.records = before ++ r :: after → r.windowEnd = some t → t.period ≤ (s.time - t.start).toNat →
      r.relation = .asking ∨ (r.relation = .waiting ∧ r.phase = some .contesting) →
      (∀ x ∈ before, x.windowEnd = none) → s.mode ≠ .lockout →
      exec .answerWindowEnd s = .next (settleLamps (enterHolding before.length false s))) ∧
    (s.mode = .lockout → exec .answerWindowEnd s = .next s) ∧
    (∀ (before : List AnswerEntry) (e : AnswerEntry) (after : List AnswerEntry),
      s.narrow.queue = before ++ e :: after →
      (∀ x ∈ before, x.inHand = true ∨ (s.time - x.queuedAt).toNat < s.cfg.wAns) → e.inHand = false →
      s.cfg.wAns ≤ (s.time - e.queuedAt).toNat →
      exec .answerExpiry s = .next (settleLamps
        { s with
          narrow := { s.narrow with queue := before ++ after }
          counters := { s.counters with answerExpired := min (s.counters.answerExpired + 1) 65535 } })) ∧
    (∀ start : Time, s.narrow.waitAgeTimer = some start → 100 ≤ (s.time - start).toNat →
      exec .waitAgeExpiry s = .next (settleLamps
        { s with narrow := { s.narrow with
          waitAgeTimer := some (start + 100)
          records :=
            if s.mode = .lockout then s.narrow.records
            else s.narrow.records.map
              (fun r => if r.relation = .waiting then { r with waitAge := min (r.waitAge + 1) 255 } else r) } }))

/-- An accepted ASK from the opposite direction for an enabled narrow: a holder, and a claimant of higher priority, queue an
answer (merged with one for the same asker and narrow, or dropped and counted where four wait); a claimant of lower priority
gives way, except in LOCKOUT; a station with no relation does nothing (R135, R144, R150, R152). The time queued, and a
transmitter in SENSE, are the model's reading, log entries 40 and 30. -/
def Obligations.AsksAreAnsweredOrYieldedTo : Prop :=
  ∀ (s : State) (f : CompleteFrame) (a : AskFrame), s.air.reception = .complete f →
    s.loading = false → s.holds.lockout ≠ .config → checkFrame s.ownId f.malformed f.buffer = .accepted (.ask a) →
    let s1 := s.frameClosed
    let r := s.narrowRecord a.narrow
    let concerned := a.direction ≠ s.road.direction ∧ ∃ e, s.cfg.narrows[a.narrow]? = some e ∧ e.disabled = none
    let ownHigher := a.waitAge < r.waitAge ∨ (r.waitAge = a.waitAge ∧ s.ownId < a.sender)
    let answers := r.relation = .holding ∨ ((r.relation = .asking ∨ r.relation = .waiting) ∧ ownHigher)
    let same := fun x : AnswerEntry => x.askerId = a.sender ∧ x.narrow = a.narrow
    (¬concerned ∨ r.relation = .none → exec .receivedFrame s = .next (settleLamps s1)) ∧
    (concerned → answers → (∃ x ∈ s.narrow.queue, same x) →
      exec .receivedFrame s = .next (settleLamps
        { s1 with narrow := { s.narrow with queue := s.narrow.queue.map fun x =>
          if x.askerId = a.sender ∧ x.narrow = a.narrow then
            { x with askerDirection := a.direction, askerWaitAge := a.waitAge }
          else x } })) ∧
    (concerned → answers → (∀ x ∈ s.narrow.queue, ¬same x) → s.narrow.queue.length < 4 →
      exec .receivedFrame s = .next (settleLamps
        { s1 with narrow := { s.narrow with queue := s.narrow.queue ++
          [{ askerId := a.sender, askerDirection := a.direction, askerWaitAge := a.waitAge, narrow := a.narrow
             queuedAt := s.time, inHand := false }] } })) ∧
    (concerned → answers → (∀ x ∈ s.narrow.queue, ¬same x) → 4 ≤ s.narrow.queue.length →
      exec .receivedFrame s = .next (settleLamps
        { s1 with counters := { s.counters with answerDropped := min (s.counters.answerDropped + 1) 65535 } })) ∧
    (concerned → ¬answers → r.relation = .asking → s.mode ≠ .lockout →
      exec .receivedFrame s = .next (settleLamps (enterWaiting a.narrow s1))) ∧
    (concerned → ¬answers → r.relation = .waiting → s.mode ≠ .lockout →
      exec .receivedFrame s = .next (settleLamps
        (if r.phase = some .contesting then
          { s1 with narrow := { s.narrow with
            records := s.narrow.records.set a.narrow
              { r with phase := some .deferred, ask := .none, windowEnd := none } } }
        else s1))) ∧
    (concerned → ¬answers → s.mode = .lockout → exec .receivedFrame s = .next (settleLamps s1))

/-- An accepted OBJECT to this station from the opposite direction for an enabled narrow, outside LOCKOUT: an asker waits, a
contestant defers; a holder counts a late objection where it inherited its claim, or where the objection is a holder's or of
higher priority and the stop line is passed, waits before the stop line, and ignores one of lower priority. Any other OBJECT
changes nothing (R145, R146, R152). That an OBJECT in LOCKOUT counts nothing is the model's choice, log entry 41; a
transmitter in SENSE is its reading, log entry 30. -/
def Obligations.ObjectionsAreHeeded : Prop :=
  ∀ (s : State) (f : CompleteFrame) (o : ObjectFrame), s.air.reception = .complete f →
    s.loading = false → s.holds.lockout ≠ .config → checkFrame s.ownId f.malformed f.buffer = .accepted (.object o) →
    let s1 := s.frameClosed
    let r := s.narrowRecord o.narrow
    (∀ e : NarrowEntry, s.cfg.narrows[o.narrow]? = some e → e.disabled = none → o.direction ≠ s.road.direction →
      o.target = s.ownId → s.mode ≠ .lockout →
      let past := match s.road.direction with
        | .up => (e.lo : Int) - s.cfg.dStop < (s.road.posUm / 1000 : Nat)
        | .down => ((s.road.posUm / 1000 : Nat) : Int) < e.hi + s.cfg.dStop
      let grave := o.relation = .holding ∨ r.waitAge < o.waitAge ∨ (o.waitAge = r.waitAge ∧ o.sender < s.ownId)
      let late := { s1 with counters := { s.counters with lateObjection := min (s.counters.lateObjection + 1) 65535 } }
      (r.relation = .none → exec .receivedFrame s = .next (settleLamps s1)) ∧
      (r.relation = .asking → exec .receivedFrame s = .next (settleLamps (enterWaiting o.narrow s1))) ∧
      (r.relation = .waiting → exec .receivedFrame s = .next (settleLamps
        (if r.phase = some .contesting then
          { s1 with narrow := { s.narrow with
            records := s.narrow.records.set o.narrow
              { r with phase := some .deferred, ask := .none, windowEnd := none } } }
        else s1))) ∧
      (r.relation = .holding → r.inherited = true → exec .receivedFrame s = .next (settleLamps late)) ∧
      (r.relation = .holding → r.inherited = false → grave → past → exec .receivedFrame s = .next (settleLamps late)) ∧
      (r.relation = .holding → r.inherited = false → grave → ¬past →
        exec .receivedFrame s = .next (settleLamps (enterWaiting o.narrow s1))) ∧
      (r.relation = .holding → r.inherited = false → ¬grave → exec .receivedFrame s = .next (settleLamps s1))) ∧
    ((o.direction = s.road.direction ∨ o.target ≠ s.ownId ∨ s.mode = .lockout ∨
        ∀ e, s.cfg.narrows[o.narrow]? = some e → e.disabled ≠ none) →
      exec .receivedFrame s = .next (settleLamps s1))

/-! ### The Spacing Unit -/

/-- SPACING_STEP selects as predecessor the candidate with the smallest gap, and of equal gaps the lower id; the candidates are
the records of own direction and known quality, ahead of the own front as projected, within W_ahead (R67, R68, R69, R70). -/
def Obligations.PredecessorIsTheNearestCandidate : Prop :=
  ∀ (s : State) (start : Time), s.loading = false → s.holds.lockout ≠ .config → s.spacing.stepTimer = some start →
    20 ≤ (s.time - start).toNat → (s.peers.records.map (fun r => r.id)).Nodup →
    let front : Int := (s.road.posUm / 1000 : Nat)
    let projected := fun r : PeerRecord =>
      let distance := if r.braking then 0
        else r.speed * min ((s.time - r.stamp).toNat + r.lead) s.cfg.hLimit / 1000
      min (s.cfg.lRoad : Int)
        (max 0 (match r.direction with | .up => (r.position : Int) + distance | .down => (r.position : Int) - distance))
    let gap : PeerRecord → Int := fun r =>
      match s.road.direction with
      | .up => projected r - r.rigLength - front
      | .down => front - (projected r + r.rigLength)
    let candidate := fun r : PeerRecord =>
      s.cfg.wAhead ≠ 0 ∧ s.road.quality ≠ .unknown ∧ r.direction = s.road.direction ∧ r.quality ≠ .unknown ∧
      (s.road.direction = .up → front < projected r) ∧ (s.road.direction = .down → projected r < front) ∧
      gap r ≤ s.cfg.wAhead
    ∃ t, exec .spacingStep s = .next t ∧
      ((∀ r ∈ s.peers.records, ¬candidate r) → t.spacing.predecessor = none) ∧
      (∀ r ∈ s.peers.records, candidate r →
        (∀ x ∈ s.peers.records, candidate x → x ≠ r → gap r < gap x ∨ (gap r = gap x ∧ r.id < x.id)) →
        t.spacing.predecessor = some { id := r.id, gap := gap r })

/-- A turn that the step finds pending makes a station that is not PARKED HEAD of its own convoy before anything else, and
leaves the roles alone after that; in HALT and LOCKOUT with no turn the membership is frozen and its timers stop (R75, R79).
At the same expiry the Air Port takes its step sample, of the state before stage 6 or after it (R40, R98; log entry 7). Where
the next 20 ms start, and what else a step that takes a turn may do, are the model's reading, log entries 27 and 26. -/
def Obligations.TurnsAndFreezesSetMembership : Prop :=
  (∀ (s : State) (start : Time), s.loading = false → s.holds.lockout ≠ .config → s.spacing.stepTimer = some start →
      20 ≤ (s.time - start).toNat →
      ∃ t, exec .spacingStep s = .next t ∧ t.spacing.stepTimer = some (start + 20) ∧ t.spacing.autoEntry = false ∧
        t.road = { s.road with turnSpacing := false } ∧
        (s.road.turnSpacing = true →
          t.spacing.role = (if s.spacing.role = .parked then .parked else .head) ∧ t.spacing.convoyId = s.ownId ∧
          t.spacing.memberIndex = 0 ∧ t.spacing.splitTimer = none ∧ t.order = s.order) ∧
        (s.road.turnSpacing = false → s.mode = .halt ∨ s.mode = .lockout →
          t.spacing.role = s.spacing.role ∧ t.spacing.convoyId = s.spacing.convoyId ∧
          t.spacing.memberIndex = s.spacing.memberIndex ∧ t.spacing.splitTimer = none ∧ t.spacing.parkTimer = none ∧
          t.spacing.wakeTimer = none ∧ t.order = s.order)) ∧
  (∀ (s : State) (start : Time), s.loading = false → s.holds.lockout ≠ .config → s.spacing.stepTimer = some start →
      20 ≤ (s.time - start).toNat →
      ∃ (t : State) (sample : StepSample), exec .spacingStep s = .next t ∧ t.air.sample = some sample ∧
        sample.front = s.road.posUm / 1000 ∧ sample.direction = s.road.direction ∧ sample.quality = s.road.quality ∧
        sample.speed = s.drive.vMeas ∧ sample.time = s.time ∧
        (sample.braking = s.spacing.braking ∨ sample.braking = t.spacing.braking))

/-- LINK_LOSS: a step whose predecessor is STALE pushes it, unless the role is PARKED, the mode LOCKOUT, or the loss of that
peer already noted; the record names the lost peer, and a full stack without the cause locks out. Otherwise the step leaves
the stack alone (R49, R80, R118, R119, R120). -/
def Obligations.StalePredecessorsHaltTheRig : Prop :=
  ∀ (s : State) (start : Time), s.loading = false → s.holds.lockout ≠ .config → s.spacing.stepTimer = some start →
    20 ≤ (s.time - start).toNat →
    let lost := fun r : PeerRecord => 3 * r.period < (s.time - r.stamp).toNat ∧ s.spacing.role ≠ .parked ∧
      s.mode ≠ .lockout ∧ r.id ≠ s.spacing.lostId
    ∃ t, exec .spacingStep s = .next t ∧
      ((∀ r, s.selected = some r → ¬lost r) → t.holds = s.holds ∧ t.spacing.lostId = s.spacing.lostId) ∧
      (∀ r, s.selected = some r → lost r →
        t.spacing.lostId = r.id ∧
        (s.holds.has .linkLoss = true ∨ s.holds.stack.length < 4 →
          t.mode = .halt ∧ t.holds.lockout = s.holds.lockout ∧
          ∃ x ∈ t.holds.stack, x.cause = .linkLoss ∧ x.released = false ∧ x.lostId = some r.id ∧ x.pushedAt = s.time) ∧
        (s.holds.has .linkLoss = false → 4 ≤ s.holds.stack.length →
          t.holds = { s.holds with lockout := .holdOverrun }))

/-- Membership at a step with no turn pending, whose predecessor, if any, is FRESH, or STALE with its loss already noted or
behind a PARKED rig: a HEAD joins a joinable predecessor within G_join, with its order copied; a FOLLOW goes with its
predecessor's convoy, and splits where there is none, where it is not joinable, or where the gap has been above G_split for
T_split; HEAD and FOLLOW park after T_park at rest, the park timer starting at the first step at rest and stopping at a step
that is not, or in WAIT; a PARKED rig wakes behind a moving predecessor, on an AUTO entry, or on 500 ms of throttle (R71, R72,
R73, R74, R76, R77, R78, R82, R166). -/
def Obligations.MembershipFollowsThePredecessor : Prop :=
  ∀ (s : State) (start : Time), s.loading = false → s.spacing.stepTimer = some start →
    20 ≤ (s.time - start).toNat → s.road.turnSpacing = false →
    (∀ r, s.selected = some r →
      (s.time - r.stamp).toNat ≤ 3 * r.period ∨ s.spacing.role = .parked ∨ r.id = s.spacing.lostId) →
    let joinable := fun r : PeerRecord => (r.mode = .head ∨ r.mode = .follow ∨ r.mode = .wait ∨ r.mode = .halt) ∧
      r.memberIndex < 15 ∧ 1 ≤ r.convoyId ∧ r.convoyId ≤ 30 ∧ r.convoyId ≠ s.ownId
    let ranFor := fun (timer : Running) (period : Nat) => ∃ since, timer = some since ∧ period ≤ (s.time - since).toNat
    let parks := s.spacing.vRef = 0 ∧ s.drive.vMeas = 0 ∧ ranFor s.spacing.parkTimer s.cfg.tPark
    let behind := fun (t : State) (r : PeerRecord) =>
      t.spacing.role = .follow ∧ t.spacing.convoyId = r.convoyId ∧ t.spacing.memberIndex = r.memberIndex + 1
    let alone := fun (t : State) (role : Role) =>
      t.spacing.role = role ∧ t.spacing.convoyId = s.ownId ∧ t.spacing.memberIndex = 0 ∧ t.spacing.splitTimer = none ∧
      t.order = s.order
    let same := fun t : State =>
      t.spacing.role = s.spacing.role ∧ t.spacing.convoyId = s.spacing.convoyId ∧
      t.spacing.memberIndex = s.spacing.memberIndex ∧ t.order = s.order
    ∃ t, exec .spacingStep s = .next t ∧
      (s.mode = .head ∨ s.mode = .follow → parks →
        alone t .parked ∧ t.spacing.parkTimer = none ∧ t.spacing.wakeTimer = none) ∧
      (s.mode = .head ∨ s.mode = .follow → ¬parks →
        t.spacing.parkTimer =
          if s.spacing.vRef = 0 ∧ s.drive.vMeas = 0 then some (s.spacing.parkTimer.getD s.time) else none) ∧
      (s.mode = .wait → t.spacing.parkTimer = none) ∧
      ((s.mode = .head ∧ ¬parks) ∨ (s.mode = .wait ∧ s.spacing.role = .head) →
        (∀ r, s.selected = some r → joinable r → s.gapTo r ≤ s.cfg.gJoin →
          behind t r ∧ t.spacing.splitTimer = none ∧ t.order = (joinNotice r.id s).order) ∧
        ((∀ r, s.selected = some r → ¬joinable r ∨ s.cfg.gJoin < s.gapTo r) → same t)) ∧
      ((s.mode = .follow ∧ ¬parks) ∨ (s.mode = .wait ∧ s.spacing.role = .follow) →
        ((∀ r, s.selected = some r → ¬joinable r) → alone t .head) ∧
        (∀ r, s.selected = some r → joinable r → s.gapTo r ≤ s.cfg.gSplit →
          behind t r ∧ t.spacing.splitTimer = none) ∧
        (∀ r, s.selected = some r → joinable r → s.cfg.gSplit < s.gapTo r → s.spacing.splitTimer = none →
          behind t r ∧ t.spacing.splitTimer = some s.time) ∧
        (∀ r since, s.selected = some r → joinable r → s.cfg.gSplit < s.gapTo r → s.spacing.splitTimer = some since →
          (s.time - since).toNat < s.cfg.tSplit → behind t r ∧ t.spacing.splitTimer = some since) ∧
        (∀ r, s.selected = some r → joinable r → s.cfg.gSplit < s.gapTo r → ranFor s.spacing.splitTimer s.cfg.tSplit →
          alone t .head) ∧
        (∀ r, s.selected = some r → t.spacing.role = .follow →
          t.order = if r.convoyId = s.spacing.convoyId then s.order else (joinNotice r.id s).order)) ∧
      (s.spacing.role = .parked → s.mode = .parked ∨ s.mode = .wait →
        let wakes := fun r : PeerRecord =>
          s.selected = some r ∧ joinable r ∧ r.mode ≠ .halt ∧ s.gapTo r ≤ s.cfg.gJoin
        let driven := s.handset.band = .drive ∧ s.cfg.vMax / 10 ≤ s.handset.throttle
        (∀ r, wakes r → behind t r ∧ t.spacing.wakeTimer = none ∧ t.spacing.parkTimer = none) ∧
        ((∀ r, ¬wakes r) → (s.spacing.autoEntry = true ∨ (driven ∧ ranFor s.spacing.wakeTimer 500)) →
          alone t .head ∧ t.spacing.wakeTimer = none ∧ t.spacing.parkTimer = none) ∧
        ((∀ r, ¬wakes r) → s.spacing.autoEntry = false → ¬(driven ∧ ranFor s.spacing.wakeTimer 500) →
          same t ∧ t.spacing.wakeTimer =
            if driven then (match s.spacing.wakeTimer with | none => some s.time | some x => some x) else none))

/-- A join notice outside LOCKOUT copies the named peer's order part without acting on it; with no record or no order
part of it the code is NONE and the station unsynchronised (R166, R167). A resume gesture requests the releases of
HANDSET_STOP and LINK_LOSS, gives a resume notice, which in LATCHED with the OBST level INACTIVE requests the release of
OBSTRUCTION, and then issues RESUME_ALL where the last order issued was STOP_ALL and the station is a HEAD that may
issue; the order issued is acted on (R160, R164, R175). The order of the releases is the model's reading, log entry 34.
-/
def Obligations.OrdersAreCopiedAndResumed : Prop :=
  (∀ (s : State) (id : Nat),
      (s.mode = .lockout → joinNotice id s = s) ∧
      (s.mode ≠ .lockout →
        (∀ (r : PeerRecord) (part : OrderPart), s.peers.records.find? (fun x => decide (x.id = id)) = some r →
          r.orderPart = some part →
          joinNotice id s =
            { s with order := { s.order with
              code := part.code, seq := part.seq, hop := min (part.hop + 1) 15, origin := r.convoyId
              unsynchronised := false } }) ∧
        ((∀ r ∈ s.peers.records, r.id ≠ id) →
          joinNotice id s = { s with order := { s.order with code := .none, unsynchronised := true } }) ∧
        (∀ r : PeerRecord, s.peers.records.find? (fun x => decide (x.id = id)) = some r → r.orderPart = none →
          joinNotice id s = { s with order := { s.order with code := .none, unsynchronised := true } }))) ∧
  (∀ s : State,
      let s1 := releaseHold .linkLoss (releaseHold .handsetStop s)
      let s2 := if s.cfg.obstMode = .latched ∧ s.sensors.obstActive = false then releaseHold .obstruction s1 else s1
      let issued :=
        { s2 with order :=
          { code := .resumeAll, seq := (s.order.seq + 1) % 16, origin := s.ownId, hop := 0, lastIssued := .resumeAll
            unsynchronised := false } }
      resumeGesture s =
        if s.order.lastIssued = .stopAll ∧ s2.spacing.role = .head ∧ s2.mode ≠ .start ∧ s2.mode ≠ .lockout then
          releaseHold .linkLoss (releaseHold .convoyStop issued)
        else s2)

/-- The spacing law. SPACING_STEP leaves V_ref at 0 under a close-in flag or an unreleased OBSTRUCTION, and else moves it
toward V_target by at most the up or the down step. V_target is 0 in START, PARKED, HALT and LOCKOUT, and else the smallest
of base speed, cap, law speed and stop speed that apply. The close-in flag rises below half the effective
standstill gap and stays below the whole of it; its rise is counted and brakes the rig; BRAKING follows (R84 to R99, R108). -/
def Obligations.SpeedReferenceObeysTheLaw : Prop :=
  ∀ (s : State) (start : Time), s.loading = false → s.holds.lockout ≠ .config → s.spacing.stepTimer = some start →
    20 ≤ (s.time - start).toNat →
    ∃ t, exec .spacingStep s = .next t ∧
      let c := s.cfg
      let doubt := fun q : Quality => if q = .drift ∨ q = .poor then 1 else 0
      let g0 := fun r : PeerRecord => c.g0 * (1 + doubt r.quality + doubt s.road.quality)
      let error := fun r : PeerRecord =>
        min 2000 (max (-2000) (s.gapTo r - ((g0 r + c.th * s.drive.vMeas / 1000 : Nat) : Int)))
      let law := fun r : PeerRecord => max 0 ((r.speed : Int) + (error r * c.kg).tdiv 64)
      let cap := min c.vMax s.zoneCap
      let cap := if s.road.quality = .unknown then min cap c.vCreep else cap
      let base := match t.spacing.role with
        | .head => if s.handset.band = .drive then s.handset.throttle else c.vCruise
        | .follow => c.vMax
        | .parked => 0
      let stop : Option Int :=
        match s.narrowAhead with
        | none => none
        | some i =>
          if (s.narrowRecord i).relation = .holding then none
          else (c.narrows[i]?).map fun e =>
            let distance : Int := match s.road.direction with
              | .up => (e.lo : Int) - c.dStop - s.front
              | .down => (s.front : Int) - (e.hi + c.dStop)
            if distance ≤ 0 then 0 else (distance * c.kg).tdiv 64
      let terms : List Int := [(base : Int), (cap : Int)] ++ (s.selected.map law).toList ++ stop.toList
      let stopped := t.mode = .start ∨ t.mode = .parked ∨ t.mode = .halt ∨ t.mode = .lockout
      let rises := ∃ r, s.selected = some r ∧ s.spacing.closeIn = false ∧ s.gapTo r < ((g0 r / 2 : Nat) : Int)
      let stays := ∃ r, s.selected = some r ∧ s.spacing.closeIn = true ∧ s.gapTo r < ((g0 r : Nat) : Int)
      let up := max 1 (c.aUp * 20 / 1000)
      let down := max 1 (c.aDn * 20 / 1000)
      let old := s.spacing.vRef
      (t.spacing.closeIn = true ↔ rises ∨ stays) ∧
      (t.spacing.closeIn = true ∨ t.holds.unreleased .obstruction = true → t.spacing.vRef = 0) ∧
      (t.spacing.closeIn = false → t.holds.unreleased .obstruction = false →
        ∃ target : Int, (stopped → target = 0) ∧
          (¬stopped → target ∈ terms ∧ ∀ x ∈ terms, target ≤ x) ∧
          (t.spacing.vRef : Int) = max (max 0 ((old : Int) - down)) (min ((old : Int) + up) target)) ∧
      (t.spacing.braking = true ↔ t.spacing.vRef < old ∨ t.spacing.closeIn = true ∨ t.drive.applied.state = .brake) ∧
      (stopped → t.spacing.vRef ≤ old) ∧
      t.counters = (if t.spacing.closeIn = true ∧ s.spacing.closeIn = false then
          { s.counters with closeIn := min (s.counters.closeIn + 1) 65535 } else s.counters) ∧
      (rises → t.drive.integral = 0 ∧ t.drive.updatePending = false ∧ t.drive.buffer = t.drive.applied ∧
        t.drive.applied =
          if 0 < s.drive.vMeas then { state := .brake, duty := -1023 } else { state := .brakeHold, duty := 0 }) ∧
      (¬rises → t.holds.lockout = s.holds.lockout → t.drive = s.drive) ∧
      t.config = s.config ∧ t.loader = s.loader ∧ t.peers = s.peers ∧ t.narrow = s.narrow ∧ t.handset = s.handset ∧
      t.sensors = s.sensors ∧ t.service = s.service ∧ t.time = s.time

/-! ### The Drive Unit -/

/-- DRIVE_STEP: V_meas from the edges of the step, limited and counted; under a close-in flag, an obstruction kill or LOCKOUT
full braking or the hold, with I at 0; else the integral, the duty and the output state by the speed loop, into the buffer.
PWM_PERIOD_END applies a pending buffer (R101 to R110, R113). Where the next 20 ms start is the model's reading, log entry
27. -/
def Obligations.DriveStepRunsTheSpeedLoop : Prop :=
  ∀ s : State,
    (∀ start : Time, s.loading = false → s.holds.lockout ≠ .config → s.drive.stepTimer = some start →
      20 ≤ (s.time - start).toNat →
      let c := s.cfg
      let measured := s.drive.edgeCount * c.eS / 20
      let v := min measured 1023
      let counters := if 1023 < measured then
        { s.counters with overspeed := min (s.counters.overspeed + 1) 65535 } else s.counters
      let killed := s.spacing.closeIn = true ∨ s.drive.obstructionKill = true ∨ s.mode = .lockout
      let e : Int := (s.spacing.vRef : Int) - v
      let rest := s.spacing.vRef = 0 ∧ v = 0
      let inc := (e * c.kI).tdiv 16
      let integral : Int :=
        if rest then 0
        else if (0 < inc ∧ s.drive.applied.duty = 1023) ∨ (inc < 0 ∧ s.drive.applied.duty = -1023) then s.drive.integral
        else min 65535 (max (-65535) (s.drive.integral + inc))
      let grade := if 0 < s.spacing.vRef then s.gradeBias else 0
      let d := min 1023 (max (-1023)
        (((s.spacing.vRef * c.kFf / 256 : Nat) : Int) + (e * c.kP).tdiv 64 + integral.tdiv 256 + grade))
      let output : BridgeOutput :=
        if 0 < d then { state := .drive, duty := d }
        else if d < 0 then { state := .brake, duty := d }
        else if rest then { state := .brakeHold, duty := 0 }
        else { state := .coast, duty := 0 }
      let forced : BridgeOutput := if 0 < v then { state := .brake, duty := -1023 } else { state := .brakeHold, duty := 0 }
      exec .driveStep s = .next (settleLamps
        { s with
          counters := counters
          drive :=
            if killed then
              { s.drive with
                vMeas := v, edgeCount := 0, stepTimer := some (start + 20), applied := forced, buffer := forced
                updatePending := false, integral := 0 }
            else
              { s.drive with
                vMeas := v, edgeCount := 0, stepTimer := some (start + 20), buffer := output, updatePending := true
                integral := integral } })) ∧
    (s.drive.updatePending = true →
      exec .pwmPeriodEnd s = .next (settleLamps
        { s with drive := { s.drive with applied := s.drive.buffer, updatePending := false } })) ∧
    (s.drive.updatePending = false → exec .pwmPeriodEnd s = .next (settleLamps s))

/-! ### The handset -/

/-- THROTTLE_PULSE: outside START a pulse of 800 to 2,200 µs makes the channel present and sets the throttle, 0 up to 1,050,
V_max from 1,950 and in proportion between; below 1,950 it clears the reset lock, and the reset timer runs while the band is
STOP and the pulse at least 1,950; any other pulse is ignored (R155, R156, R162). -/
def Obligations.ThrottlePulsesSetTheThrottle : Prop :=
  ∀ (s : State) (w : Nat),
    (s.mode = .start ∨ w < 800 ∨ 2200 < w → exec (.throttlePulse w) s = .next (settleLamps s)) ∧
    (s.mode ≠ .start → 800 ≤ w → w ≤ 2200 →
      let locked := s.handset.resetLock = true ∧ 1950 ≤ w
      exec (.throttlePulse w) s = .next (settleLamps
        { s with handset := { s.handset with
          throttleChannel := { present := true, lastPulse := s.time }
          lastWidth := w
          throttle :=
            if s.holds.lockout = .config ∨ w ≤ 1050 then 0
            else if 1950 ≤ w then s.cfg.vMax
            else (w - 1050) * s.cfg.vMax / 900
          resetLock := decide locked
          resetTimer :=
            if s.handset.band = .stop ∧ 1950 ≤ w then
              (match s.handset.resetTimer with
               | some x => some x
               | none => if locked then none else some s.time)
            else none } }))

/-- MODE_PULSE: outside START a pulse of 800 to 2,200 µs sets the band by its width, keeping it between the bands. A change
into STOP starts the STOP timer and pushes HANDSET_STOP; a change into AUTO sets the AUTO-entry flag; a change into AUTO or
DRIVE clears the reset lock, and out of a STOP of at least 300 ms it is a resume gesture (R77, R155, R157, R159, R160,
R162). -/
def Obligations.ModePulsesChangeTheBand : Prop :=
  ∀ (s : State) (w : Nat),
    (s.mode = .start ∨ w < 800 ∨ 2200 < w → exec (.modePulse w) s = .next (settleLamps s)) ∧
    (s.mode ≠ .start → 800 ≤ w → w ≤ 2200 →
      let band : Band :=
        if w ≤ 1299 then .auto
        else if w ≤ 1399 then s.handset.band
        else if w ≤ 1600 then .drive
        else if w ≤ 1700 then s.handset.band
        else .stop
      let heard := { s.handset with modeChannel := { present := true, lastPulse := s.time } }
      let widest := s.handset.throttleChannel.present = true ∧ 1950 ≤ s.handset.lastWidth
      (band = s.handset.band →
        exec (.modePulse w) s = .next (settleLamps { s with handset := heard.withResetTimer s.time })) ∧
      (band = .stop → band ≠ s.handset.band →
        exec (.modePulse w) s = .next (settleLamps (pushHold .handsetStop none
          { s with handset := { heard with
            band := .stop, stopTimer := some s.time, stopHeld := false
            resetTimer := if widest ∧ s.handset.resetLock = false then some s.time else none } }))) ∧
      (band ≠ .stop → band ≠ s.handset.band →
        let s1 := { s with
          handset := { heard with
            band := band, stopTimer := none, stopHeld := false, resetTimer := none, resetLock := false }
          spacing := { s.spacing with autoEntry := s.spacing.autoEntry || decide (band = .auto) } }
        let resumes := s.handset.band = .stop ∧ ∃ since, s.handset.stopTimer = some since ∧ 300 ≤ (s.time - since).toNat
        (resumes → exec (.modePulse w) s = .next (settleLamps (resumeGesture s1))) ∧
        (¬resumes → exec (.modePulse w) s = .next (settleLamps s1))))

/-- CHANNEL_ABSENT after 250 ms without a valid pulse: the throttle channel leaves the throttle at 0, the mode channel the
band at ABSENT; a HEAD whose band stood at DRIVE stops with HANDSET_STOP. STOP_TIMER_EXPIRY after 1,000 ms of STOP: a HEAD
outside LOCKOUT issues STOP_ALL, once (R155, R156, R157, R158, R159, R164). -/
def Obligations.HandsetLossAndLongStopAct : Prop :=
  ∀ s : State,
    let stopIf := fun t : State =>
      if s.handset.band = .drive ∧ s.spacing.role = .head then pushHold .handsetStop none t else t
    (s.handset.throttleChannel.present = true → 250 ≤ (s.time - s.handset.throttleChannel.lastPulse).toNat →
      exec (.channelAbsent .throttle) s = .next (settleLamps (stopIf
        { s with handset := { s.handset with
          throttleChannel := { s.handset.throttleChannel with present := false }, throttle := 0
          resetTimer := none } }))) ∧
    (s.handset.modeChannel.present = true → 250 ≤ (s.time - s.handset.modeChannel.lastPulse).toNat →
      s.handset.band ≠ .absent →
      exec (.channelAbsent .mode) s = .next (settleLamps (stopIf
        { s with handset := { s.handset with
          modeChannel := { s.handset.modeChannel with present := false }, band := .absent, stopTimer := none
          stopHeld := false, resetTimer := none } }))) ∧
    (s.handset.modeChannel.present = true → 250 ≤ (s.time - s.handset.modeChannel.lastPulse).toNat →
      s.handset.band = .absent →
      exec (.channelAbsent .mode) s = .next (settleLamps
        { s with handset := { s.handset with
          modeChannel := { s.handset.modeChannel with present := false }, resetTimer := none } })) ∧
    (∀ since : Time, s.handset.stopTimer = some since → 1000 ≤ (s.time - since).toNat → s.handset.stopHeld = false →
      let s1 := { s with handset := { s.handset with stopHeld := true } }
      exec .stopTimerExpiry s = .next (settleLamps
        (if s.spacing.role = .head ∧ s.mode ≠ .start ∧ s.mode ≠ .lockout then
          pushHold .convoyStop none
            { s1 with order :=
              { code := .stopAll, seq := (s.order.seq + 1) % 16, origin := s.ownId, hop := 0, lastIssued := .stopAll
                unsynchronised := false } }
        else s1)))

/-! ### Holds, modes and lamps -/

/-- A push has no effect in START and LOCKOUT; it revives the record of its cause in place, else places a record on top, and
on a full stack locks out with the drive forced. A release marks the record of its cause, removes released records from the
top, clears the obstruction kill for OBSTRUCTION, and parks a station whose emptied stack stood on a record placed in PARKED.
Each leaves every other block alone, but that a station which a push takes out of PARKED while its beacon due time lies more
than P_b + P_b / 4 ahead has that time set afresh (R34, R110, R117 to R123). -/
def Obligations.HoldsArePushedAndReleased : Prop :=
  ∀ (s : State) (cause : HoldCause) (lost : Option Nat),
    let due := fun t : State =>
      if s.mode = .parked ∧ t.mode ≠ .parked ∧
        (∃ x ∈ s.air.beaconTimer, 10 * s.cfg.pB + 10 * s.cfg.pB / 4 < x.period - (s.time - x.start).toNat) then
        scheduleBeacon (10 * s.cfg.pB) t
      else t
    (s.mode = .start ∨ s.mode = .lockout → pushHold cause lost s = s ∧ releaseHold cause s = s) ∧
    (s.holds.unreleased cause = false → releaseHold cause s = s) ∧
    (s.mode ≠ .start → s.mode ≠ .lockout →
      (s.holds.has cause = true →
        pushHold cause lost s = due { s with holds := { s.holds with stack := s.holds.stack.map fun r =>
          if r.cause = cause then
            { r with released := false, pushedAt := s.time, lostId := if cause = .linkLoss then lost else r.lostId }
          else r } }) ∧
      (s.holds.has cause = false → s.holds.stack.length < 4 →
        pushHold cause lost s = due { s with holds := { s.holds with stack :=
          { cause := cause, pushedAt := s.time, modeBefore := s.mode, vRefAtPush := s.spacing.vRef, released := false
            lostId := if cause = .linkLoss then lost else none } :: s.holds.stack } }) ∧
      (s.holds.has cause = false → 4 ≤ s.holds.stack.length →
        pushHold cause lost s = due { s with
          holds := { s.holds with lockout := .holdOverrun }
          drive := { s.drive with
            integral := 0, updatePending := false
            buffer := if 0 < s.drive.vMeas then { state := .brake, duty := -1023 } else { state := .brakeHold, duty := 0 }
            applied := if 0 < s.drive.vMeas then { state := .brake, duty := -1023 } else { state := .brakeHold, duty := 0 } } })) ∧
    (s.mode ≠ .start → s.mode ≠ .lockout → s.holds.unreleased cause = true →
      let t := releaseHold cause s
      let left := (s.holds.stack.map (fun r => if r.cause = cause then { r with released := true } else r)).dropWhile
        (fun r => r.released)
      let returns := left = [] ∧ ∃ r, s.holds.stack.getLast? = some r ∧ r.modeBefore = .parked
      t.air = s.air ∧ t.holds = { s.holds with stack := left } ∧
      t.drive = (if cause = .obstruction then { s.drive with obstructionKill := false } else s.drive) ∧
      (returns → t.spacing =
        { s.spacing with
          role := .parked, convoyId := s.ownId, memberIndex := 0, splitTimer := none, parkTimer := none
          wakeTimer := none }) ∧
      (¬returns → t.spacing = s.spacing) ∧
      t = { s with holds := t.holds, drive := t.drive, spacing := t.spacing })

/-- The mode: START during a load; else LOCKOUT with a lockout cause; else HALT with an unreleased record of a cause other than
NARROW_WAIT; else WAIT with an unreleased NARROW_WAIT; else the role (R125). -/
def Obligations.ModeIsDerived : Prop :=
  ∀ s : State,
    let halted := ∃ r ∈ s.holds.stack, r.released = false ∧ r.cause ≠ .narrowWait
    let waiting := ∃ r ∈ s.holds.stack, r.released = false ∧ r.cause = .narrowWait
    let running := s.loader.phase = .idle ∧ s.holds.lockout = .none
    (s.mode = .start ↔ s.loader.phase ≠ .idle) ∧
    (s.mode = .lockout ↔ s.loader.phase = .idle ∧ s.holds.lockout ≠ .none) ∧
    (s.mode = .halt ↔ running ∧ halted) ∧
    (s.mode = .wait ↔ running ∧ ¬halted ∧ waiting) ∧
    (s.mode = .head ↔ running ∧ ¬halted ∧ ¬waiting ∧ s.spacing.role = .head) ∧
    (s.mode = .follow ↔ running ∧ ¬halted ∧ ¬waiting ∧ s.spacing.role = .follow) ∧
    (s.mode = .parked ↔ running ∧ ¬halted ∧ ¬waiting ∧ s.spacing.role = .parked)

/-- The lamp lines show the state in every mode, and LAMP_TIMEBASE_BOUNDARY brings them to it; a line not fitted, and
every line before the first successful load, is undriven; and where the lines show the state they do so after every
command (R176, R177). That the lines are settled at the end of each command is the model's choice, log entry 29. -/
def Obligations.LampLinesShowTheState : Prop :=
  ∀ s : State,
    let tb := s.lamps.timebase
    let flash : LineDrive := if tb ≤ 499 then .on else .off
    let flashInv : LineDrive := if tb ≤ 499 then .off else .on
    let fast : LineDrive := if tb % 250 ≤ 124 then .on else .off
    let braked := s.drive.applied.state = .brake ∨ s.drive.applied.state = .brakeHold
    let lamps : Lamps :=
      if s.config = none then { timebase := tb, brake := .undriven, amber := .undriven, head := .undriven }
      else
        { timebase := tb
          brake :=
            if s.cfg.brakeFitted = false then .undriven
            else if s.mode = .lockout then flashInv
            else if braked ∨ (s.mode ≠ .start ∧ s.spacing.braking = true) then .on
            else .off
          amber :=
            if s.cfg.amberFitted = false then .undriven
            else if s.mode = .lockout ∨ s.mode = .wait then flash
            else if s.mode = .halt then .on
            else if s.mode = .head ∧ s.road.quality = .unknown then fast
            else .off
          head :=
            if s.cfg.headFitted = false then .undriven
            else if s.mode = .lockout then flash
            else if s.mode = .start ∨ s.mode = .parked then .off
            else .on }
    settleLamps s = { s with lamps := lamps } ∧
    exec .lampTimebaseBoundary s = .next { s with lamps := lamps } ∧
    ∀ (c : Instr) (t : State), s.LampsSound → exec c s = .next t → t.LampsSound

/-! ### The Service Line -/

/-- A completed word is taken while no response is sent: its response begins with one reading, and CLEAR then zeroes the
counters and RESUME acts as a resume gesture. While a response is sent the first request waits, and any further one is
dropped and counted (R161, R186, R187). The lines of every response, with their fields in order (R61, R131, R153, R187,
R188). That these commands are completed words is the model's reading, log entry 18; the names in the CONFIG lines and
their numbering from 0 are the model's, log entries 19 and 20. -/
def Obligations.ServiceRequestsAreTaken : Prop :=
  (∀ (s : State) (c : Instr) (q : Request),
    (c, q) ∈ [(Instr.status, Request.status), (.peers, .peers), (.holds, .holds), (.narrows, .narrows),
      (.counters, .counters), (.config, .config), (.clear, .clear), (.resume, .resume), (.restartRequest, .restart),
      (.unknownWord, .unknown)] →
    (s.service.response = none → s.service.pendingRequest = none →
      let s1 := { s with service := { s.service with response := some { request := q, lines := s.responseLines q } } }
      exec c s = .next (settleLamps
        (if q = .clear then { s1 with counters := .zero }
        else if q = .resume then resumeGesture { s1 with handset := { s.handset with resumePending := false } }
        else s1))) ∧
    (s.service.response ≠ none → s.service.pendingRequest = none →
      exec c s = .next (settleLamps { s with service := { s.service with pendingRequest := some q } })) ∧
    (s.service.pendingRequest ≠ none →
      exec c s = .next (settleLamps
        { s with counters := { s.counters with requestDropped := min (s.counters.requestDropped + 1) 65535 } }))) ∧
  (∀ s : State,
    let num := fun (name : String) (n : Int) => ({ name := name, value := .number n } : LineField)
    let word := fun (name w : String) => ({ name := name, value := .word w } : LineField)
    let flag := fun (name : String) (b : Bool) => ({ name := name, value := .yesNo b } : LineField)
    let minus := fun name : String => ({ name := name, value := .absent } : LineField)
    let numOr := fun (name : String) (n : Option Int) => match n with | none => minus name | some n => num name n
    let wordOr := fun (name : String) (w : Option String) => match w with | none => minus name | some w => word name w
    let age := fun since : Time => ((s.time - since).toNat : Int)
    let state := fun reason : Option String =>
      word "STATE" (match reason with | none => "ENABLED" | some r => "DISABLED:" ++ r)
    let duty := s.drive.applied.duty
    s.responseLines .status =
      [.fields
        [word "MODE" s.mode.name, word "ROLE" s.spacing.role.name, word "LOCKOUT" s.holds.lockout.name,
          num "POS" (s.road.posUm / 1000 : Nat), word "DIR" s.road.direction.name, word "QUAL" s.road.quality.name,
          num "VREF" s.spacing.vRef, num "VMEAS" s.drive.vMeas,
          { name := "OUT", value :=
            match s.drive.applied.state with
            | .drive => .tagged "DRIVE" duty.natAbs
            | .brake => .tagged "BRAKE" duty.natAbs
            | .brakeHold => .word "BRAKE_HOLD"
            | .coast => .word "COAST" },
          num "DUTY" duty, num "PRED" (match s.spacing.predecessor with | none => 0 | some p => p.id),
          numOr "GAP" (s.spacing.predecessor.map fun p => p.gap), num "CONVOY" s.spacing.convoyId,
          num "INDEX" s.spacing.memberIndex, num "RIG" s.road.rigLength, word "BAND" s.handset.band.name,
          num "THROTTLE" s.handset.throttle, word "ORDER" s.order.code.name, num "OSEQ" s.order.seq,
          num "ORIGIN" s.order.origin, num "HOP" s.order.hop, word "ISSUED" s.order.lastIssued.name,
          flag "UNSYNC" s.order.unsynchronised,
          word "FLAGS"
            (if s.loader.clamped ≠ [] then (if s.air.clash then "CLAMPED,CLASH" else "CLAMPED")
            else if s.air.clash then "CLASH" else "NONE")],
       .finish] ∧
    s.responseLines .peers =
      (s.peers.records.map fun r => .fields
        [num "ID" r.id, num "POS" r.position, word "DIR" r.direction.name, word "QUAL" r.quality.name,
          num "SPEED" r.speed, flag "BRK" r.braking, num "RIG" r.rigLength, word "MODE" r.mode.name,
          num "CONVOY" r.convoyId, num "INDEX" r.memberIndex, num "PERIOD" r.period,
          numOr "NARROW" (r.narrowPart.map fun p => (p.index : Int)),
          wordOr "REL" (r.narrowPart.map fun p => p.relation.name),
          numOr "WAGE" (r.narrowPart.map fun p => (p.waitAge : Int)),
          wordOr "ORDER" (r.orderPart.map fun p => p.code.name), numOr "OSEQ" (r.orderPart.map fun p => (p.seq : Int)),
          numOr "HOP" (r.orderPart.map fun p => (p.hop : Int)), flag "FIRST" r.first,
          num "SEQ" r.lastSequence.toNat, num "AGE" (age r.stamp),
          word "STATE" (if (s.time - r.stamp).toNat ≤ 3 * r.period then "FRESH" else "STALE")]) ++ [.finish] ∧
    s.responseLines .holds =
      ((s.holds.stack.zipIdx 1).map fun p => .fields
        [num "PLACE" p.2, word "CAUSE" p.1.cause.name, num "AGE" (age p.1.pushedAt), word "BEFORE" p.1.modeBefore.name,
          num "VREF" p.1.vRefAtPush, word "STATE" (if p.1.released then "RELEASED" else "HELD"),
          numOr "LOST" (p.1.lostId.map fun id => (id : Int))]) ++ [.finish] ∧
    s.responseLines .narrows =
      ((s.cfg.narrows.zipIdx.filter fun p => p.1.disabled.isNone).map fun p =>
        let r := s.narrowRecord p.2
        .fields
          [num "NARROW" p.2, num "LO" p.1.lo, num "HI" p.1.hi, word "REL" r.relation.name,
            wordOr "PHASE" (r.phase.map fun x => x.name), num "WAGE" r.waitAge, num "ASKS" r.asksSent,
            flag "INH" r.inherited])
      ++ (s.narrow.queue.map fun e => .fields
        [num "ASKER" e.askerId, num "NARROW" e.narrow, num "WAGE" e.askerWaitAge, num "AGE" (age e.queuedAt),
          flag "INHAND" e.inHand]) ++ [.finish] ∧
    s.responseLines .counters =
      ([("LARGE_CORRECTION", s.counters.largeCorrection), ("UNKNOWN_MARKER", s.counters.unknownMarker),
        ("UNREADABLE_MARKER", s.counters.unreadableMarker), ("MALFORMED", s.counters.malformed),
        ("CRC_ERROR", s.counters.crcError), ("UNKNOWN_KIND", s.counters.unknownKind), ("ID_CLASH", s.counters.idClash),
        ("BEACON_DROPPED", s.counters.beaconDropped), ("ASK_DROPPED", s.counters.askDropped),
        ("ANSWER_WITHDRAWN", s.counters.answerWithdrawn), ("RADIO_TIMEOUT", s.counters.radioTimeout),
        ("OLD_SEQUENCE", s.counters.oldSequence), ("TABLE_FULL", s.counters.tableFull), ("CLOSE_IN", s.counters.closeIn),
        ("OVERSPEED", s.counters.overspeed), ("UNCLAIMED_ENTRY", s.counters.unclaimedEntry),
        ("LATE_OBJECTION", s.counters.lateObjection), ("NARROW_CONFLICT", s.counters.narrowConflict),
        ("ANSWER_DROPPED", s.counters.answerDropped), ("ANSWER_EXPIRED", s.counters.answerExpired),
        ("OBSTRUCTION_STOP", s.counters.obstructionStop), ("REQUEST_DROPPED", s.counters.requestDropped)].map
          fun p => .fields [num p.1 (p.2 : Nat)]) ++ [.finish] ∧
    s.responseLines .config =
      (.fields [flag "LOADED" (decide (s.loader.reason = .none)), word "REASON" s.loader.reason.name]) ::
      (match s.config with
        | none => []
        | some c =>
          (stationFields.map fun f => .fields
            [word "FIELD" f.name, num "VALUE" (c.station f), flag "CLAMPED" (decide (.station f ∈ s.loader.clamped))])
          ++ (c.markers.zipIdx.map fun p => .fields
            [num "MARKER" p.2, num "CODE" p.1.code, num "POS" p.1.position,
              wordOr "KIND" (if p.1.kind = 0 then some "POSITION" else if p.1.kind ≤ 2 then some "TURN" else none),
              state (p.1.disabled.map fun x => x.name)])
          ++ (c.narrows.zipIdx.map fun p => .fields
            [num "ENTRY" p.2, num "LO" p.1.lo, num "HI" p.1.hi, state (p.1.disabled.map fun x => x.name)]))
      ++ [.finish] ∧
    (∀ q ∈ [Request.clear, .resume, .restart], s.responseLines q = [.ok, .finish]) ∧
    s.responseLines .unknown = [.err])

/-- Characters on the service line: a line feed is ignored; a carriage return ends a word of at least one character, which
then arrives as the request it names, every other word and every word of more than 16 characters as unknown; any other
character joins the word. RESPONSE_END takes the pending request, if any (R186, R187); that it does nothing while no response
is sent is the model's choice, log entry 36. -/
def Obligations.ServiceWordsAreCollected : Prop :=
  ∀ s : State,
    exec (.receivedCharacter 10) s = .next (settleLamps s) ∧
    (s.service.word = [] → exec (.receivedCharacter 13) s = .next (settleLamps s)) ∧
    (∀ char : Byte, char ≠ 10 → char ≠ 13 →
      exec (.receivedCharacter char) s = .next (settleLamps
        { s with service :=
          if s.service.word.length < 16 then { s.service with word := s.service.word ++ [char] }
          else { s.service with overlong := true } })) ∧
    (let known : List (List Byte × Instr) :=
        [([83, 84, 65, 84, 85, 83], .status), ([80, 69, 69, 82, 83], .peers), ([72, 79, 76, 68, 83], .holds),
          ([78, 65, 82, 82, 79, 87, 83], .narrows), ([67, 79, 85, 78, 84, 69, 82, 83], .counters),
          ([67, 79, 78, 70, 73, 71], .config), ([67, 76, 69, 65, 82], .clear), ([82, 69, 83, 85, 77, 69], .resume),
          ([82, 69, 83, 84, 65, 82, 84], .restartRequest)]
      let ended := { s with service := { s.service with word := [], overlong := false } }
      (∀ p ∈ known, s.service.word = p.1 → s.service.overlong = false →
        exec (.receivedCharacter 13) s = exec p.2 ended) ∧
      (s.service.word ≠ [] → s.service.overlong = true ∨ (∀ p ∈ known, s.service.word ≠ p.1) →
        exec (.receivedCharacter 13) s = exec .unknownWord ended)) ∧
    (∀ r : Response, s.service.response = some r → r.request ≠ .restart →
      (s.service.pendingRequest = none →
        exec .responseEnd s = .next (settleLamps { s with service := { s.service with response := none } })) ∧
      ∀ q : Request, s.service.pendingRequest = some q →
        let s1 := { s with service := { s.service with response := none, pendingRequest := none } }
        exec .responseEnd s = .next (settleLamps (takeRequest q s1))) ∧
    (s.service.response = none → exec .responseEnd s = .next (settleLamps s))

/-! ### What holds at every moment -/

/-- Right after power-on every predicate of Safety holds. -/
def Obligations.PowerOnIsSound : Prop :=
  State.reset.RangesSound ∧ State.reset.SpeedSound ∧ State.reset.StackSound ∧ State.reset.AnswersSound ∧
  State.reset.TableSound ∧ State.reset.MembershipSound ∧ State.reset.KillSound ∧ State.reset.LockoutSound ∧
  State.reset.ConfigSound ∧ State.reset.RouteSound ∧ State.reset.RelationsSound ∧ State.reset.PairingSound ∧
  State.reset.LampsSound ∧ State.reset.ThrottleSound ∧ State.reset.RecordsSound ∧ State.reset.AsksSound

/-- Every step keeps the registers within their ranges: position, Drive Unit, wait ages, order hop and sequence, jitter state,
rotation, FIRST count, lamp timebase, event counters, V_ref, throttle, peer records and asks sent (00_scope section 5, R2, R30,
R36, R46, R47, R84, R100, R134, R142, R149, R156, R163, R176). -/
def Obligations.StepsKeepTheRanges : Prop :=
  ∀ s t : State, step s = .next t →
    (s.RangesSound → t.RangesSound) ∧ (s.SpeedSound → t.SpeedSound) ∧ (s.ThrottleSound → t.ThrottleSound) ∧
    (s.RecordsSound → t.RecordsSound) ∧ (s.AsksSound → t.AsksSound)

/-- Every step keeps the Hold Stack and the answer queue at four entries at most, no two for the same matter, and the Peer
Table at 16 records at most, in road order, without the own id (R50, R53, R63, R117, R150). -/
def Obligations.StepsKeepTheStackTheAnswersAndTheTable : Prop :=
  (∀ s t : State, step s = .next t →
      (s.StackSound → t.StackSound) ∧ (s.AnswersSound → t.AnswersSound)) ∧
  (∀ s t : State, step s = .next t → s.TableSound → t.TableSound)

/-- Every step keeps the member index at 15 at most, and at 0 exactly for the head of the own convoy, and a configuration held
exactly outside START and LOCKOUT with cause CONFIG (R71, R178, R181, R184). -/
def Obligations.StepsKeepTheMembershipAndTheConfiguration : Prop :=
  (∀ s t : State, step s = .next t → s.MembershipSound → t.MembershipSound) ∧
  (∀ s t : State, step s = .next t → s.ConfigSound → t.ConfigSound)

/-- Every step keeps an unreleased obstruction hold braked with its kill flag, and a lockout braked (R109, R110, R175). -/
def Obligations.StepsKeepTheBrakesOn : Prop :=
  ∀ s t : State, step s = .next t →
    (s.KillSound → t.KillSound) ∧ (s.LockoutSound → t.LockoutSound)

/-- Every step keeps one relation at most, with an enabled narrow, and an unreleased NARROW_WAIT exactly while a relation is
WAITING, whatever order the events come in (R120, R132, R134, R148). -/
def Obligations.StepsKeepOneRelationAndItsHold : Prop :=
  ∀ s t : State, step s = .next t → s.RouteSound → s.RelationsSound →
    t.RouteSound ∧ t.RelationsSound ∧ (s.PairingSound → t.PairingSound)

/-- LOCKOUT freezes the Hold Stack, the order record and every narrow relation with its wait age, and only POWER_ON and a
restart lead out of it (R127, R128, R152, R167). -/
def Obligations.LockoutFreezesTheStation : Prop :=
  ∀ (c : Instr) (s t : State), s.mode = .lockout → exec c s = .next t →
    (t.mode = .lockout →
      t.holds = s.holds ∧ t.order = s.order ∧
      t.narrow.records.map (fun r => (r.relation, r.phase, r.waitAge, r.inherited)) =
        s.narrow.records.map (fun r => (r.relation, r.phase, r.waitAge, r.inherited))) ∧
    (t.mode ≠ .lockout →
      (c = .powerOn ∧ t.mode = .start) ∨
      ((c = .restart ∨ c = .resetGesture ∨ c = .responseEnd) ∧ t.holds.lockout = .none))
end

