-- ==== Sys2Proof/Laws/State.lean ====
section
/-!
SUPPORT. One lemma for each field after each block write of `State`, so that no proof unfolds a record update.
-/

namespace Sys2Proof.Machine

variable (s : State)

/-! ### After `State.setTime` -/

@[simp] theorem State.setTime_time (x : Time) : (s.setTime x).time = x := rfl
@[simp] theorem State.setTime_config (x : Time) : (s.setTime x).config = s.config := rfl
@[simp] theorem State.setTime_loader (x : Time) : (s.setTime x).loader = s.loader := rfl
@[simp] theorem State.setTime_road (x : Time) : (s.setTime x).road = s.road := rfl
@[simp] theorem State.setTime_air (x : Time) : (s.setTime x).air = s.air := rfl
@[simp] theorem State.setTime_peers (x : Time) : (s.setTime x).peers = s.peers := rfl
@[simp] theorem State.setTime_spacing (x : Time) : (s.setTime x).spacing = s.spacing := rfl
@[simp] theorem State.setTime_drive (x : Time) : (s.setTime x).drive = s.drive := rfl
@[simp] theorem State.setTime_holds (x : Time) : (s.setTime x).holds = s.holds := rfl
@[simp] theorem State.setTime_narrow (x : Time) : (s.setTime x).narrow = s.narrow := rfl
@[simp] theorem State.setTime_handset (x : Time) : (s.setTime x).handset = s.handset := rfl
@[simp] theorem State.setTime_order (x : Time) : (s.setTime x).order = s.order := rfl
@[simp] theorem State.setTime_sensors (x : Time) : (s.setTime x).sensors = s.sensors := rfl
@[simp] theorem State.setTime_lamps (x : Time) : (s.setTime x).lamps = s.lamps := rfl
@[simp] theorem State.setTime_service (x : Time) : (s.setTime x).service = s.service := rfl
@[simp] theorem State.setTime_counters (x : Time) : (s.setTime x).counters = s.counters := rfl
@[simp] theorem State.setTime_freeCount (x : Time) : (s.setTime x).freeCount = s.freeCount := rfl
@[simp] theorem State.setTime_pending (x : Time) : (s.setTime x).pending = s.pending := rfl

/-! ### After `State.setConfig` -/

@[simp] theorem State.setConfig_time (x : Option WorkingConfig) : (s.setConfig x).time = s.time := rfl
@[simp] theorem State.setConfig_config (x : Option WorkingConfig) : (s.setConfig x).config = x := rfl
@[simp] theorem State.setConfig_loader (x : Option WorkingConfig) : (s.setConfig x).loader = s.loader := rfl
@[simp] theorem State.setConfig_road (x : Option WorkingConfig) : (s.setConfig x).road = s.road := rfl
@[simp] theorem State.setConfig_air (x : Option WorkingConfig) : (s.setConfig x).air = s.air := rfl
@[simp] theorem State.setConfig_peers (x : Option WorkingConfig) : (s.setConfig x).peers = s.peers := rfl
@[simp] theorem State.setConfig_spacing (x : Option WorkingConfig) : (s.setConfig x).spacing = s.spacing := rfl
@[simp] theorem State.setConfig_drive (x : Option WorkingConfig) : (s.setConfig x).drive = s.drive := rfl
@[simp] theorem State.setConfig_holds (x : Option WorkingConfig) : (s.setConfig x).holds = s.holds := rfl
@[simp] theorem State.setConfig_narrow (x : Option WorkingConfig) : (s.setConfig x).narrow = s.narrow := rfl
@[simp] theorem State.setConfig_handset (x : Option WorkingConfig) : (s.setConfig x).handset = s.handset := rfl
@[simp] theorem State.setConfig_order (x : Option WorkingConfig) : (s.setConfig x).order = s.order := rfl
@[simp] theorem State.setConfig_sensors (x : Option WorkingConfig) : (s.setConfig x).sensors = s.sensors := rfl
@[simp] theorem State.setConfig_lamps (x : Option WorkingConfig) : (s.setConfig x).lamps = s.lamps := rfl
@[simp] theorem State.setConfig_service (x : Option WorkingConfig) : (s.setConfig x).service = s.service := rfl
@[simp] theorem State.setConfig_counters (x : Option WorkingConfig) : (s.setConfig x).counters = s.counters := rfl
@[simp] theorem State.setConfig_freeCount (x : Option WorkingConfig) : (s.setConfig x).freeCount = s.freeCount := rfl
@[simp] theorem State.setConfig_pending (x : Option WorkingConfig) : (s.setConfig x).pending = s.pending := rfl

/-! ### After `State.setLoader` -/

@[simp] theorem State.setLoader_time (x : Loader) : (s.setLoader x).time = s.time := rfl
@[simp] theorem State.setLoader_config (x : Loader) : (s.setLoader x).config = s.config := rfl
@[simp] theorem State.setLoader_loader (x : Loader) : (s.setLoader x).loader = x := rfl
@[simp] theorem State.setLoader_road (x : Loader) : (s.setLoader x).road = s.road := rfl
@[simp] theorem State.setLoader_air (x : Loader) : (s.setLoader x).air = s.air := rfl
@[simp] theorem State.setLoader_peers (x : Loader) : (s.setLoader x).peers = s.peers := rfl
@[simp] theorem State.setLoader_spacing (x : Loader) : (s.setLoader x).spacing = s.spacing := rfl
@[simp] theorem State.setLoader_drive (x : Loader) : (s.setLoader x).drive = s.drive := rfl
@[simp] theorem State.setLoader_holds (x : Loader) : (s.setLoader x).holds = s.holds := rfl
@[simp] theorem State.setLoader_narrow (x : Loader) : (s.setLoader x).narrow = s.narrow := rfl
@[simp] theorem State.setLoader_handset (x : Loader) : (s.setLoader x).handset = s.handset := rfl
@[simp] theorem State.setLoader_order (x : Loader) : (s.setLoader x).order = s.order := rfl
@[simp] theorem State.setLoader_sensors (x : Loader) : (s.setLoader x).sensors = s.sensors := rfl
@[simp] theorem State.setLoader_lamps (x : Loader) : (s.setLoader x).lamps = s.lamps := rfl
@[simp] theorem State.setLoader_service (x : Loader) : (s.setLoader x).service = s.service := rfl
@[simp] theorem State.setLoader_counters (x : Loader) : (s.setLoader x).counters = s.counters := rfl
@[simp] theorem State.setLoader_freeCount (x : Loader) : (s.setLoader x).freeCount = s.freeCount := rfl
@[simp] theorem State.setLoader_pending (x : Loader) : (s.setLoader x).pending = s.pending := rfl

/-! ### After `State.setRoad` -/

@[simp] theorem State.setRoad_time (x : RoadTracker) : (s.setRoad x).time = s.time := rfl
@[simp] theorem State.setRoad_config (x : RoadTracker) : (s.setRoad x).config = s.config := rfl
@[simp] theorem State.setRoad_loader (x : RoadTracker) : (s.setRoad x).loader = s.loader := rfl
@[simp] theorem State.setRoad_road (x : RoadTracker) : (s.setRoad x).road = x := rfl
@[simp] theorem State.setRoad_air (x : RoadTracker) : (s.setRoad x).air = s.air := rfl
@[simp] theorem State.setRoad_peers (x : RoadTracker) : (s.setRoad x).peers = s.peers := rfl
@[simp] theorem State.setRoad_spacing (x : RoadTracker) : (s.setRoad x).spacing = s.spacing := rfl
@[simp] theorem State.setRoad_drive (x : RoadTracker) : (s.setRoad x).drive = s.drive := rfl
@[simp] theorem State.setRoad_holds (x : RoadTracker) : (s.setRoad x).holds = s.holds := rfl
@[simp] theorem State.setRoad_narrow (x : RoadTracker) : (s.setRoad x).narrow = s.narrow := rfl
@[simp] theorem State.setRoad_handset (x : RoadTracker) : (s.setRoad x).handset = s.handset := rfl
@[simp] theorem State.setRoad_order (x : RoadTracker) : (s.setRoad x).order = s.order := rfl
@[simp] theorem State.setRoad_sensors (x : RoadTracker) : (s.setRoad x).sensors = s.sensors := rfl
@[simp] theorem State.setRoad_lamps (x : RoadTracker) : (s.setRoad x).lamps = s.lamps := rfl
@[simp] theorem State.setRoad_service (x : RoadTracker) : (s.setRoad x).service = s.service := rfl
@[simp] theorem State.setRoad_counters (x : RoadTracker) : (s.setRoad x).counters = s.counters := rfl
@[simp] theorem State.setRoad_freeCount (x : RoadTracker) : (s.setRoad x).freeCount = s.freeCount := rfl
@[simp] theorem State.setRoad_pending (x : RoadTracker) : (s.setRoad x).pending = s.pending := rfl

/-! ### After `State.setAir` -/

@[simp] theorem State.setAir_time (x : AirPort) : (s.setAir x).time = s.time := rfl
@[simp] theorem State.setAir_config (x : AirPort) : (s.setAir x).config = s.config := rfl
@[simp] theorem State.setAir_loader (x : AirPort) : (s.setAir x).loader = s.loader := rfl
@[simp] theorem State.setAir_road (x : AirPort) : (s.setAir x).road = s.road := rfl
@[simp] theorem State.setAir_air (x : AirPort) : (s.setAir x).air = x := rfl
@[simp] theorem State.setAir_peers (x : AirPort) : (s.setAir x).peers = s.peers := rfl
@[simp] theorem State.setAir_spacing (x : AirPort) : (s.setAir x).spacing = s.spacing := rfl
@[simp] theorem State.setAir_drive (x : AirPort) : (s.setAir x).drive = s.drive := rfl
@[simp] theorem State.setAir_holds (x : AirPort) : (s.setAir x).holds = s.holds := rfl
@[simp] theorem State.setAir_narrow (x : AirPort) : (s.setAir x).narrow = s.narrow := rfl
@[simp] theorem State.setAir_handset (x : AirPort) : (s.setAir x).handset = s.handset := rfl
@[simp] theorem State.setAir_order (x : AirPort) : (s.setAir x).order = s.order := rfl
@[simp] theorem State.setAir_sensors (x : AirPort) : (s.setAir x).sensors = s.sensors := rfl
@[simp] theorem State.setAir_lamps (x : AirPort) : (s.setAir x).lamps = s.lamps := rfl
@[simp] theorem State.setAir_service (x : AirPort) : (s.setAir x).service = s.service := rfl
@[simp] theorem State.setAir_counters (x : AirPort) : (s.setAir x).counters = s.counters := rfl
@[simp] theorem State.setAir_freeCount (x : AirPort) : (s.setAir x).freeCount = s.freeCount := rfl
@[simp] theorem State.setAir_pending (x : AirPort) : (s.setAir x).pending = s.pending := rfl

/-! ### After `State.setPeers` -/

@[simp] theorem State.setPeers_time (x : PeerTable) : (s.setPeers x).time = s.time := rfl
@[simp] theorem State.setPeers_config (x : PeerTable) : (s.setPeers x).config = s.config := rfl
@[simp] theorem State.setPeers_loader (x : PeerTable) : (s.setPeers x).loader = s.loader := rfl
@[simp] theorem State.setPeers_road (x : PeerTable) : (s.setPeers x).road = s.road := rfl
@[simp] theorem State.setPeers_air (x : PeerTable) : (s.setPeers x).air = s.air := rfl
@[simp] theorem State.setPeers_peers (x : PeerTable) : (s.setPeers x).peers = x := rfl
@[simp] theorem State.setPeers_spacing (x : PeerTable) : (s.setPeers x).spacing = s.spacing := rfl
@[simp] theorem State.setPeers_drive (x : PeerTable) : (s.setPeers x).drive = s.drive := rfl
@[simp] theorem State.setPeers_holds (x : PeerTable) : (s.setPeers x).holds = s.holds := rfl
@[simp] theorem State.setPeers_narrow (x : PeerTable) : (s.setPeers x).narrow = s.narrow := rfl
@[simp] theorem State.setPeers_handset (x : PeerTable) : (s.setPeers x).handset = s.handset := rfl
@[simp] theorem State.setPeers_order (x : PeerTable) : (s.setPeers x).order = s.order := rfl
@[simp] theorem State.setPeers_sensors (x : PeerTable) : (s.setPeers x).sensors = s.sensors := rfl
@[simp] theorem State.setPeers_lamps (x : PeerTable) : (s.setPeers x).lamps = s.lamps := rfl
@[simp] theorem State.setPeers_service (x : PeerTable) : (s.setPeers x).service = s.service := rfl
@[simp] theorem State.setPeers_counters (x : PeerTable) : (s.setPeers x).counters = s.counters := rfl
@[simp] theorem State.setPeers_freeCount (x : PeerTable) : (s.setPeers x).freeCount = s.freeCount := rfl
@[simp] theorem State.setPeers_pending (x : PeerTable) : (s.setPeers x).pending = s.pending := rfl

/-! ### After `State.setSpacing` -/

@[simp] theorem State.setSpacing_time (x : SpacingUnit) : (s.setSpacing x).time = s.time := rfl
@[simp] theorem State.setSpacing_config (x : SpacingUnit) : (s.setSpacing x).config = s.config := rfl
@[simp] theorem State.setSpacing_loader (x : SpacingUnit) : (s.setSpacing x).loader = s.loader := rfl
@[simp] theorem State.setSpacing_road (x : SpacingUnit) : (s.setSpacing x).road = s.road := rfl
@[simp] theorem State.setSpacing_air (x : SpacingUnit) : (s.setSpacing x).air = s.air := rfl
@[simp] theorem State.setSpacing_peers (x : SpacingUnit) : (s.setSpacing x).peers = s.peers := rfl
@[simp] theorem State.setSpacing_spacing (x : SpacingUnit) : (s.setSpacing x).spacing = x := rfl
@[simp] theorem State.setSpacing_drive (x : SpacingUnit) : (s.setSpacing x).drive = s.drive := rfl
@[simp] theorem State.setSpacing_holds (x : SpacingUnit) : (s.setSpacing x).holds = s.holds := rfl
@[simp] theorem State.setSpacing_narrow (x : SpacingUnit) : (s.setSpacing x).narrow = s.narrow := rfl
@[simp] theorem State.setSpacing_handset (x : SpacingUnit) : (s.setSpacing x).handset = s.handset := rfl
@[simp] theorem State.setSpacing_order (x : SpacingUnit) : (s.setSpacing x).order = s.order := rfl
@[simp] theorem State.setSpacing_sensors (x : SpacingUnit) : (s.setSpacing x).sensors = s.sensors := rfl
@[simp] theorem State.setSpacing_lamps (x : SpacingUnit) : (s.setSpacing x).lamps = s.lamps := rfl
@[simp] theorem State.setSpacing_service (x : SpacingUnit) : (s.setSpacing x).service = s.service := rfl
@[simp] theorem State.setSpacing_counters (x : SpacingUnit) : (s.setSpacing x).counters = s.counters := rfl
@[simp] theorem State.setSpacing_freeCount (x : SpacingUnit) : (s.setSpacing x).freeCount = s.freeCount := rfl
@[simp] theorem State.setSpacing_pending (x : SpacingUnit) : (s.setSpacing x).pending = s.pending := rfl

/-! ### After `State.setDrive` -/

@[simp] theorem State.setDrive_time (x : DriveUnit) : (s.setDrive x).time = s.time := rfl
@[simp] theorem State.setDrive_config (x : DriveUnit) : (s.setDrive x).config = s.config := rfl
@[simp] theorem State.setDrive_loader (x : DriveUnit) : (s.setDrive x).loader = s.loader := rfl
@[simp] theorem State.setDrive_road (x : DriveUnit) : (s.setDrive x).road = s.road := rfl
@[simp] theorem State.setDrive_air (x : DriveUnit) : (s.setDrive x).air = s.air := rfl
@[simp] theorem State.setDrive_peers (x : DriveUnit) : (s.setDrive x).peers = s.peers := rfl
@[simp] theorem State.setDrive_spacing (x : DriveUnit) : (s.setDrive x).spacing = s.spacing := rfl
@[simp] theorem State.setDrive_drive (x : DriveUnit) : (s.setDrive x).drive = x := rfl
@[simp] theorem State.setDrive_holds (x : DriveUnit) : (s.setDrive x).holds = s.holds := rfl
@[simp] theorem State.setDrive_narrow (x : DriveUnit) : (s.setDrive x).narrow = s.narrow := rfl
@[simp] theorem State.setDrive_handset (x : DriveUnit) : (s.setDrive x).handset = s.handset := rfl
@[simp] theorem State.setDrive_order (x : DriveUnit) : (s.setDrive x).order = s.order := rfl
@[simp] theorem State.setDrive_sensors (x : DriveUnit) : (s.setDrive x).sensors = s.sensors := rfl
@[simp] theorem State.setDrive_lamps (x : DriveUnit) : (s.setDrive x).lamps = s.lamps := rfl
@[simp] theorem State.setDrive_service (x : DriveUnit) : (s.setDrive x).service = s.service := rfl
@[simp] theorem State.setDrive_counters (x : DriveUnit) : (s.setDrive x).counters = s.counters := rfl
@[simp] theorem State.setDrive_freeCount (x : DriveUnit) : (s.setDrive x).freeCount = s.freeCount := rfl
@[simp] theorem State.setDrive_pending (x : DriveUnit) : (s.setDrive x).pending = s.pending := rfl

/-! ### After `State.setHolds` -/

@[simp] theorem State.setHolds_time (x : HoldStack) : (s.setHolds x).time = s.time := rfl
@[simp] theorem State.setHolds_config (x : HoldStack) : (s.setHolds x).config = s.config := rfl
@[simp] theorem State.setHolds_loader (x : HoldStack) : (s.setHolds x).loader = s.loader := rfl
@[simp] theorem State.setHolds_road (x : HoldStack) : (s.setHolds x).road = s.road := rfl
@[simp] theorem State.setHolds_air (x : HoldStack) : (s.setHolds x).air = s.air := rfl
@[simp] theorem State.setHolds_peers (x : HoldStack) : (s.setHolds x).peers = s.peers := rfl
@[simp] theorem State.setHolds_spacing (x : HoldStack) : (s.setHolds x).spacing = s.spacing := rfl
@[simp] theorem State.setHolds_drive (x : HoldStack) : (s.setHolds x).drive = s.drive := rfl
@[simp] theorem State.setHolds_holds (x : HoldStack) : (s.setHolds x).holds = x := rfl
@[simp] theorem State.setHolds_narrow (x : HoldStack) : (s.setHolds x).narrow = s.narrow := rfl
@[simp] theorem State.setHolds_handset (x : HoldStack) : (s.setHolds x).handset = s.handset := rfl
@[simp] theorem State.setHolds_order (x : HoldStack) : (s.setHolds x).order = s.order := rfl
@[simp] theorem State.setHolds_sensors (x : HoldStack) : (s.setHolds x).sensors = s.sensors := rfl
@[simp] theorem State.setHolds_lamps (x : HoldStack) : (s.setHolds x).lamps = s.lamps := rfl
@[simp] theorem State.setHolds_service (x : HoldStack) : (s.setHolds x).service = s.service := rfl
@[simp] theorem State.setHolds_counters (x : HoldStack) : (s.setHolds x).counters = s.counters := rfl
@[simp] theorem State.setHolds_freeCount (x : HoldStack) : (s.setHolds x).freeCount = s.freeCount := rfl
@[simp] theorem State.setHolds_pending (x : HoldStack) : (s.setHolds x).pending = s.pending := rfl

/-! ### After `State.setNarrow` -/

@[simp] theorem State.setNarrow_time (x : NarrowUnit) : (s.setNarrow x).time = s.time := rfl
@[simp] theorem State.setNarrow_config (x : NarrowUnit) : (s.setNarrow x).config = s.config := rfl
@[simp] theorem State.setNarrow_loader (x : NarrowUnit) : (s.setNarrow x).loader = s.loader := rfl
@[simp] theorem State.setNarrow_road (x : NarrowUnit) : (s.setNarrow x).road = s.road := rfl
@[simp] theorem State.setNarrow_air (x : NarrowUnit) : (s.setNarrow x).air = s.air := rfl
@[simp] theorem State.setNarrow_peers (x : NarrowUnit) : (s.setNarrow x).peers = s.peers := rfl
@[simp] theorem State.setNarrow_spacing (x : NarrowUnit) : (s.setNarrow x).spacing = s.spacing := rfl
@[simp] theorem State.setNarrow_drive (x : NarrowUnit) : (s.setNarrow x).drive = s.drive := rfl
@[simp] theorem State.setNarrow_holds (x : NarrowUnit) : (s.setNarrow x).holds = s.holds := rfl
@[simp] theorem State.setNarrow_narrow (x : NarrowUnit) : (s.setNarrow x).narrow = x := rfl
@[simp] theorem State.setNarrow_handset (x : NarrowUnit) : (s.setNarrow x).handset = s.handset := rfl
@[simp] theorem State.setNarrow_order (x : NarrowUnit) : (s.setNarrow x).order = s.order := rfl
@[simp] theorem State.setNarrow_sensors (x : NarrowUnit) : (s.setNarrow x).sensors = s.sensors := rfl
@[simp] theorem State.setNarrow_lamps (x : NarrowUnit) : (s.setNarrow x).lamps = s.lamps := rfl
@[simp] theorem State.setNarrow_service (x : NarrowUnit) : (s.setNarrow x).service = s.service := rfl
@[simp] theorem State.setNarrow_counters (x : NarrowUnit) : (s.setNarrow x).counters = s.counters := rfl
@[simp] theorem State.setNarrow_freeCount (x : NarrowUnit) : (s.setNarrow x).freeCount = s.freeCount := rfl
@[simp] theorem State.setNarrow_pending (x : NarrowUnit) : (s.setNarrow x).pending = s.pending := rfl

/-! ### After `State.setHandset` -/

@[simp] theorem State.setHandset_time (x : Handset) : (s.setHandset x).time = s.time := rfl
@[simp] theorem State.setHandset_config (x : Handset) : (s.setHandset x).config = s.config := rfl
@[simp] theorem State.setHandset_loader (x : Handset) : (s.setHandset x).loader = s.loader := rfl
@[simp] theorem State.setHandset_road (x : Handset) : (s.setHandset x).road = s.road := rfl
@[simp] theorem State.setHandset_air (x : Handset) : (s.setHandset x).air = s.air := rfl
@[simp] theorem State.setHandset_peers (x : Handset) : (s.setHandset x).peers = s.peers := rfl
@[simp] theorem State.setHandset_spacing (x : Handset) : (s.setHandset x).spacing = s.spacing := rfl
@[simp] theorem State.setHandset_drive (x : Handset) : (s.setHandset x).drive = s.drive := rfl
@[simp] theorem State.setHandset_holds (x : Handset) : (s.setHandset x).holds = s.holds := rfl
@[simp] theorem State.setHandset_narrow (x : Handset) : (s.setHandset x).narrow = s.narrow := rfl
@[simp] theorem State.setHandset_handset (x : Handset) : (s.setHandset x).handset = x := rfl
@[simp] theorem State.setHandset_order (x : Handset) : (s.setHandset x).order = s.order := rfl
@[simp] theorem State.setHandset_sensors (x : Handset) : (s.setHandset x).sensors = s.sensors := rfl
@[simp] theorem State.setHandset_lamps (x : Handset) : (s.setHandset x).lamps = s.lamps := rfl
@[simp] theorem State.setHandset_service (x : Handset) : (s.setHandset x).service = s.service := rfl
@[simp] theorem State.setHandset_counters (x : Handset) : (s.setHandset x).counters = s.counters := rfl
@[simp] theorem State.setHandset_freeCount (x : Handset) : (s.setHandset x).freeCount = s.freeCount := rfl
@[simp] theorem State.setHandset_pending (x : Handset) : (s.setHandset x).pending = s.pending := rfl

/-! ### After `State.setOrder` -/

@[simp] theorem State.setOrder_time (x : OrderUnit) : (s.setOrder x).time = s.time := rfl
@[simp] theorem State.setOrder_config (x : OrderUnit) : (s.setOrder x).config = s.config := rfl
@[simp] theorem State.setOrder_loader (x : OrderUnit) : (s.setOrder x).loader = s.loader := rfl
@[simp] theorem State.setOrder_road (x : OrderUnit) : (s.setOrder x).road = s.road := rfl
@[simp] theorem State.setOrder_air (x : OrderUnit) : (s.setOrder x).air = s.air := rfl
@[simp] theorem State.setOrder_peers (x : OrderUnit) : (s.setOrder x).peers = s.peers := rfl
@[simp] theorem State.setOrder_spacing (x : OrderUnit) : (s.setOrder x).spacing = s.spacing := rfl
@[simp] theorem State.setOrder_drive (x : OrderUnit) : (s.setOrder x).drive = s.drive := rfl
@[simp] theorem State.setOrder_holds (x : OrderUnit) : (s.setOrder x).holds = s.holds := rfl
@[simp] theorem State.setOrder_narrow (x : OrderUnit) : (s.setOrder x).narrow = s.narrow := rfl
@[simp] theorem State.setOrder_handset (x : OrderUnit) : (s.setOrder x).handset = s.handset := rfl
@[simp] theorem State.setOrder_order (x : OrderUnit) : (s.setOrder x).order = x := rfl
@[simp] theorem State.setOrder_sensors (x : OrderUnit) : (s.setOrder x).sensors = s.sensors := rfl
@[simp] theorem State.setOrder_lamps (x : OrderUnit) : (s.setOrder x).lamps = s.lamps := rfl
@[simp] theorem State.setOrder_service (x : OrderUnit) : (s.setOrder x).service = s.service := rfl
@[simp] theorem State.setOrder_counters (x : OrderUnit) : (s.setOrder x).counters = s.counters := rfl
@[simp] theorem State.setOrder_freeCount (x : OrderUnit) : (s.setOrder x).freeCount = s.freeCount := rfl
@[simp] theorem State.setOrder_pending (x : OrderUnit) : (s.setOrder x).pending = s.pending := rfl

/-! ### After `State.setSensors` -/

@[simp] theorem State.setSensors_time (x : Sensors) : (s.setSensors x).time = s.time := rfl
@[simp] theorem State.setSensors_config (x : Sensors) : (s.setSensors x).config = s.config := rfl
@[simp] theorem State.setSensors_loader (x : Sensors) : (s.setSensors x).loader = s.loader := rfl
@[simp] theorem State.setSensors_road (x : Sensors) : (s.setSensors x).road = s.road := rfl
@[simp] theorem State.setSensors_air (x : Sensors) : (s.setSensors x).air = s.air := rfl
@[simp] theorem State.setSensors_peers (x : Sensors) : (s.setSensors x).peers = s.peers := rfl
@[simp] theorem State.setSensors_spacing (x : Sensors) : (s.setSensors x).spacing = s.spacing := rfl
@[simp] theorem State.setSensors_drive (x : Sensors) : (s.setSensors x).drive = s.drive := rfl
@[simp] theorem State.setSensors_holds (x : Sensors) : (s.setSensors x).holds = s.holds := rfl
@[simp] theorem State.setSensors_narrow (x : Sensors) : (s.setSensors x).narrow = s.narrow := rfl
@[simp] theorem State.setSensors_handset (x : Sensors) : (s.setSensors x).handset = s.handset := rfl
@[simp] theorem State.setSensors_order (x : Sensors) : (s.setSensors x).order = s.order := rfl
@[simp] theorem State.setSensors_sensors (x : Sensors) : (s.setSensors x).sensors = x := rfl
@[simp] theorem State.setSensors_lamps (x : Sensors) : (s.setSensors x).lamps = s.lamps := rfl
@[simp] theorem State.setSensors_service (x : Sensors) : (s.setSensors x).service = s.service := rfl
@[simp] theorem State.setSensors_counters (x : Sensors) : (s.setSensors x).counters = s.counters := rfl
@[simp] theorem State.setSensors_freeCount (x : Sensors) : (s.setSensors x).freeCount = s.freeCount := rfl
@[simp] theorem State.setSensors_pending (x : Sensors) : (s.setSensors x).pending = s.pending := rfl

/-! ### After `State.setLamps` -/

@[simp] theorem State.setLamps_time (x : Lamps) : (s.setLamps x).time = s.time := rfl
@[simp] theorem State.setLamps_config (x : Lamps) : (s.setLamps x).config = s.config := rfl
@[simp] theorem State.setLamps_loader (x : Lamps) : (s.setLamps x).loader = s.loader := rfl
@[simp] theorem State.setLamps_road (x : Lamps) : (s.setLamps x).road = s.road := rfl
@[simp] theorem State.setLamps_air (x : Lamps) : (s.setLamps x).air = s.air := rfl
@[simp] theorem State.setLamps_peers (x : Lamps) : (s.setLamps x).peers = s.peers := rfl
@[simp] theorem State.setLamps_spacing (x : Lamps) : (s.setLamps x).spacing = s.spacing := rfl
@[simp] theorem State.setLamps_drive (x : Lamps) : (s.setLamps x).drive = s.drive := rfl
@[simp] theorem State.setLamps_holds (x : Lamps) : (s.setLamps x).holds = s.holds := rfl
@[simp] theorem State.setLamps_narrow (x : Lamps) : (s.setLamps x).narrow = s.narrow := rfl
@[simp] theorem State.setLamps_handset (x : Lamps) : (s.setLamps x).handset = s.handset := rfl
@[simp] theorem State.setLamps_order (x : Lamps) : (s.setLamps x).order = s.order := rfl
@[simp] theorem State.setLamps_sensors (x : Lamps) : (s.setLamps x).sensors = s.sensors := rfl
@[simp] theorem State.setLamps_lamps (x : Lamps) : (s.setLamps x).lamps = x := rfl
@[simp] theorem State.setLamps_service (x : Lamps) : (s.setLamps x).service = s.service := rfl
@[simp] theorem State.setLamps_counters (x : Lamps) : (s.setLamps x).counters = s.counters := rfl
@[simp] theorem State.setLamps_freeCount (x : Lamps) : (s.setLamps x).freeCount = s.freeCount := rfl
@[simp] theorem State.setLamps_pending (x : Lamps) : (s.setLamps x).pending = s.pending := rfl

/-! ### After `State.setService` -/

@[simp] theorem State.setService_time (x : Service) : (s.setService x).time = s.time := rfl
@[simp] theorem State.setService_config (x : Service) : (s.setService x).config = s.config := rfl
@[simp] theorem State.setService_loader (x : Service) : (s.setService x).loader = s.loader := rfl
@[simp] theorem State.setService_road (x : Service) : (s.setService x).road = s.road := rfl
@[simp] theorem State.setService_air (x : Service) : (s.setService x).air = s.air := rfl
@[simp] theorem State.setService_peers (x : Service) : (s.setService x).peers = s.peers := rfl
@[simp] theorem State.setService_spacing (x : Service) : (s.setService x).spacing = s.spacing := rfl
@[simp] theorem State.setService_drive (x : Service) : (s.setService x).drive = s.drive := rfl
@[simp] theorem State.setService_holds (x : Service) : (s.setService x).holds = s.holds := rfl
@[simp] theorem State.setService_narrow (x : Service) : (s.setService x).narrow = s.narrow := rfl
@[simp] theorem State.setService_handset (x : Service) : (s.setService x).handset = s.handset := rfl
@[simp] theorem State.setService_order (x : Service) : (s.setService x).order = s.order := rfl
@[simp] theorem State.setService_sensors (x : Service) : (s.setService x).sensors = s.sensors := rfl
@[simp] theorem State.setService_lamps (x : Service) : (s.setService x).lamps = s.lamps := rfl
@[simp] theorem State.setService_service (x : Service) : (s.setService x).service = x := rfl
@[simp] theorem State.setService_counters (x : Service) : (s.setService x).counters = s.counters := rfl
@[simp] theorem State.setService_freeCount (x : Service) : (s.setService x).freeCount = s.freeCount := rfl
@[simp] theorem State.setService_pending (x : Service) : (s.setService x).pending = s.pending := rfl

/-! ### After `State.setCounters` -/

@[simp] theorem State.setCounters_time (x : Counters) : (s.setCounters x).time = s.time := rfl
@[simp] theorem State.setCounters_config (x : Counters) : (s.setCounters x).config = s.config := rfl
@[simp] theorem State.setCounters_loader (x : Counters) : (s.setCounters x).loader = s.loader := rfl
@[simp] theorem State.setCounters_road (x : Counters) : (s.setCounters x).road = s.road := rfl
@[simp] theorem State.setCounters_air (x : Counters) : (s.setCounters x).air = s.air := rfl
@[simp] theorem State.setCounters_peers (x : Counters) : (s.setCounters x).peers = s.peers := rfl
@[simp] theorem State.setCounters_spacing (x : Counters) : (s.setCounters x).spacing = s.spacing := rfl
@[simp] theorem State.setCounters_drive (x : Counters) : (s.setCounters x).drive = s.drive := rfl
@[simp] theorem State.setCounters_holds (x : Counters) : (s.setCounters x).holds = s.holds := rfl
@[simp] theorem State.setCounters_narrow (x : Counters) : (s.setCounters x).narrow = s.narrow := rfl
@[simp] theorem State.setCounters_handset (x : Counters) : (s.setCounters x).handset = s.handset := rfl
@[simp] theorem State.setCounters_order (x : Counters) : (s.setCounters x).order = s.order := rfl
@[simp] theorem State.setCounters_sensors (x : Counters) : (s.setCounters x).sensors = s.sensors := rfl
@[simp] theorem State.setCounters_lamps (x : Counters) : (s.setCounters x).lamps = s.lamps := rfl
@[simp] theorem State.setCounters_service (x : Counters) : (s.setCounters x).service = s.service := rfl
@[simp] theorem State.setCounters_counters (x : Counters) : (s.setCounters x).counters = x := rfl
@[simp] theorem State.setCounters_freeCount (x : Counters) : (s.setCounters x).freeCount = s.freeCount := rfl
@[simp] theorem State.setCounters_pending (x : Counters) : (s.setCounters x).pending = s.pending := rfl

/-! ### After `State.setFreeCount` -/

@[simp] theorem State.setFreeCount_time (x : Nat) : (s.setFreeCount x).time = s.time := rfl
@[simp] theorem State.setFreeCount_config (x : Nat) : (s.setFreeCount x).config = s.config := rfl
@[simp] theorem State.setFreeCount_loader (x : Nat) : (s.setFreeCount x).loader = s.loader := rfl
@[simp] theorem State.setFreeCount_road (x : Nat) : (s.setFreeCount x).road = s.road := rfl
@[simp] theorem State.setFreeCount_air (x : Nat) : (s.setFreeCount x).air = s.air := rfl
@[simp] theorem State.setFreeCount_peers (x : Nat) : (s.setFreeCount x).peers = s.peers := rfl
@[simp] theorem State.setFreeCount_spacing (x : Nat) : (s.setFreeCount x).spacing = s.spacing := rfl
@[simp] theorem State.setFreeCount_drive (x : Nat) : (s.setFreeCount x).drive = s.drive := rfl
@[simp] theorem State.setFreeCount_holds (x : Nat) : (s.setFreeCount x).holds = s.holds := rfl
@[simp] theorem State.setFreeCount_narrow (x : Nat) : (s.setFreeCount x).narrow = s.narrow := rfl
@[simp] theorem State.setFreeCount_handset (x : Nat) : (s.setFreeCount x).handset = s.handset := rfl
@[simp] theorem State.setFreeCount_order (x : Nat) : (s.setFreeCount x).order = s.order := rfl
@[simp] theorem State.setFreeCount_sensors (x : Nat) : (s.setFreeCount x).sensors = s.sensors := rfl
@[simp] theorem State.setFreeCount_lamps (x : Nat) : (s.setFreeCount x).lamps = s.lamps := rfl
@[simp] theorem State.setFreeCount_service (x : Nat) : (s.setFreeCount x).service = s.service := rfl
@[simp] theorem State.setFreeCount_counters (x : Nat) : (s.setFreeCount x).counters = s.counters := rfl
@[simp] theorem State.setFreeCount_freeCount (x : Nat) : (s.setFreeCount x).freeCount = x := rfl
@[simp] theorem State.setFreeCount_pending (x : Nat) : (s.setFreeCount x).pending = s.pending := rfl

/-! ### After `State.setPending` -/

@[simp] theorem State.setPending_time (x : List Instr) : (s.setPending x).time = s.time := rfl
@[simp] theorem State.setPending_config (x : List Instr) : (s.setPending x).config = s.config := rfl
@[simp] theorem State.setPending_loader (x : List Instr) : (s.setPending x).loader = s.loader := rfl
@[simp] theorem State.setPending_road (x : List Instr) : (s.setPending x).road = s.road := rfl
@[simp] theorem State.setPending_air (x : List Instr) : (s.setPending x).air = s.air := rfl
@[simp] theorem State.setPending_peers (x : List Instr) : (s.setPending x).peers = s.peers := rfl
@[simp] theorem State.setPending_spacing (x : List Instr) : (s.setPending x).spacing = s.spacing := rfl
@[simp] theorem State.setPending_drive (x : List Instr) : (s.setPending x).drive = s.drive := rfl
@[simp] theorem State.setPending_holds (x : List Instr) : (s.setPending x).holds = s.holds := rfl
@[simp] theorem State.setPending_narrow (x : List Instr) : (s.setPending x).narrow = s.narrow := rfl
@[simp] theorem State.setPending_handset (x : List Instr) : (s.setPending x).handset = s.handset := rfl
@[simp] theorem State.setPending_order (x : List Instr) : (s.setPending x).order = s.order := rfl
@[simp] theorem State.setPending_sensors (x : List Instr) : (s.setPending x).sensors = s.sensors := rfl
@[simp] theorem State.setPending_lamps (x : List Instr) : (s.setPending x).lamps = s.lamps := rfl
@[simp] theorem State.setPending_service (x : List Instr) : (s.setPending x).service = s.service := rfl
@[simp] theorem State.setPending_counters (x : List Instr) : (s.setPending x).counters = s.counters := rfl
@[simp] theorem State.setPending_freeCount (x : List Instr) : (s.setPending x).freeCount = s.freeCount := rfl
@[simp] theorem State.setPending_pending (x : List Instr) : (s.setPending x).pending = x := rfl

end Sys2Proof.Machine
end

