-- ==== Sys2Proof/Laws/Ops.lean ====
section
/-!
SUPPORT. What the shared operations can do: for each, the blocks it may change (a `_frame` lemma gives every other block as
it stood, read off by `congrArg`), and the cases of its result.
-/

namespace Sys2Proof.Machine

variable (s : State)

/-! ### Free choices -/

/-- A pick is one of the results. -/
theorem pickFree_mem (n : Nat) (results : List State) (fallback : State) (h : results ≠ []) :
    pickFree n results fallback ∈ results := by
  cases results with
  | nil => exact absurd rfl h
  | cons r rest =>
    have hlt : Config.freeChoice n % (r :: rest).length < (r :: rest).length := Nat.mod_lt _ (by simp)
    simp only [pickFree]
    split
    · simp
    · rw [List.getD_eq_getElem _ _ hlt]
      exact List.getElem_mem hlt

/-- A free order is one of the orders, taken from the state with the choice counted. -/
theorem freeOrder_cases (orders : List (State → State)) (h : orders ≠ []) :
    ∃ f ∈ orders, freeOrder orders s = f (s.setFreeCount (s.freeCount + 1)) := by
  have hm := pickFree_mem s.freeCount (orders.map (fun f => f (s.setFreeCount (s.freeCount + 1))))
    (s.setFreeCount (s.freeCount + 1)) (by simpa using h)
  obtain ⟨f, hf, he⟩ := List.mem_map.1 hm
  exact ⟨f, hf, he.symm⟩

/-! ### The jitter generator and the beacon schedule -/

theorem scheduleBeacon_frame (period : Nat) :
    scheduleBeacon period s = s.setAir (scheduleBeacon period s).air := rfl

/-- A mode change leaves all as it stands, or sets the due time afresh (R34). -/
theorem noteModeChange_cases (before : Mode) :
    noteModeChange before s = s ∨ noteModeChange before s = scheduleBeacon s.cfg.beaconPeriod s := by
  unfold noteModeChange; split <;> simp

theorem noteModeChange_frame (before : Mode) :
    noteModeChange before s = s.setAir (noteModeChange before s).air := by
  unfold noteModeChange; split <;> rfl

/-! ### The Hold Stack -/

theorem lockoutNotice_frame (cause : LockoutCause) :
    lockoutNotice cause s = s.setDrive (lockoutNotice cause s).drive := by
  cases cause <;> rfl

theorem enterLockout_frame (cause : LockoutCause) :
    enterLockout cause s =
      ((s.setHolds { s.holds with lockout := cause }).setDrive (enterLockout cause s).drive).setAir
        (enterLockout cause s).air := by
  unfold enterLockout noteModeChange; cases cause <;> split <;> rfl

/-- A push has no effect, revives the record of its cause, places a new record, or is a hold overrun (R118, R119, R120). -/
theorem pushHold_cases (cause : HoldCause) (lost : Option Nat) :
    (s.stackClosed = true ∧ pushHold cause lost s = s) ∨
    (s.stackClosed = false ∧ s.holds.has cause = true ∧
      pushHold cause lost s =
        noteModeChange s.mode (s.setHolds { s.holds with stack := reviveIn s.holds.stack cause s.time lost })) ∨
    (s.stackClosed = false ∧ s.holds.has cause = false ∧ s.holds.stack.length < 4 ∧
      pushHold cause lost s =
        noteModeChange s.mode (s.setHolds { s.holds with stack := newHold cause lost s :: s.holds.stack })) ∨
    (s.stackClosed = false ∧ s.holds.has cause = false ∧ 4 ≤ s.holds.stack.length ∧
      pushHold cause lost s = enterLockout .holdOverrun s) := by
  unfold pushHold
  cases s.stackClosed <;> cases s.holds.has cause <;> by_cases h : s.holds.stack.length < 4 <;>
    (simp [h]; try omega)

theorem pushHold_frame (cause : HoldCause) (lost : Option Nat) :
    pushHold cause lost s =
      ((s.setHolds (pushHold cause lost s).holds).setDrive (pushHold cause lost s).drive).setAir
        (pushHold cause lost s).air := by
  unfold pushHold enterLockout noteModeChange; repeat' split
  all_goals rfl

/-- A release has no effect, or marks its record and pops (R121, R122, R123). -/
theorem releaseHold_cases (cause : HoldCause) :
    ((s.stackClosed = true ∨ s.holds.unreleased cause = false) ∧ releaseHold cause s = s) ∨
    (s.stackClosed = false ∧ s.holds.unreleased cause = true ∧
      releaseHold cause s =
        noteModeChange s.mode (parkReturn s.holds.stack (releaseNotice cause
          (s.setHolds { s.holds with stack := popCascade (markReleased s.holds.stack cause) })))) := by
  unfold releaseHold
  cases s.stackClosed <;> cases s.holds.unreleased cause <;> simp

theorem releaseHold_frame (cause : HoldCause) :
    releaseHold cause s =
      (((s.setHolds (releaseHold cause s).holds).setDrive (releaseHold cause s).drive).setSpacing
        (releaseHold cause s).spacing).setAir (releaseHold cause s).air := by
  unfold releaseHold noteModeChange parkReturn releaseNotice obstructionReleaseNotice; dsimp only; repeat' split
  all_goals rfl

end Sys2Proof.Machine
end

