-- ==== Sys2Proof/Laws/Blocks.lean ====
section
/-!
SUPPORT. What the operations of the blocks can do: the cases of each (`_cases`), the blocks it may change (`_frame`), and the
membership and order of the lists they keep.
-/

namespace Sys2Proof.Machine

variable (s : State)

/-! ### Events -/

/-- An event that has come about has its effect, and else nothing changes. -/
theorem whenDue_cases (due : Bool) (effect : State → State) :
    (due = true ∧ whenDue due effect s = done (effect s)) ∨ (due = false ∧ whenDue due effect s = .next s) := by
  cases due <;> simp [whenDue]

/-- A command ends with the lamp lines settled, and they alone. -/
theorem done_eq : done s = .next (s.setLamps s.lampsNow) := rfl

/-! ### Peer Table -/

/-- Placing a record adds it and nothing else. -/
theorem insertRecord_mem (p : PeerRecord) (l : List PeerRecord) (r : PeerRecord) :
    r ∈ insertRecord p l ↔ r = p ∨ r ∈ l := by
  induction l with
  | nil => simp [insertRecord]
  | cons x xs ih =>
    simp only [insertRecord]
    split
    · simp
    · simp only [List.mem_cons, ih]
      tauto

/-- A record placed among records of other ids in road order leaves them in road order (R50, R53). -/
theorem insertRecord_ordered (p : PeerRecord) (l : List PeerRecord)
    (h : l.Pairwise (fun x y => x.position < y.position ∨ (x.position = y.position ∧ x.id < y.id)))
    (hn : ∀ r ∈ l, r.id ≠ p.id) :
    (insertRecord p l).Pairwise
      (fun x y => x.position < y.position ∨ (x.position = y.position ∧ x.id < y.id)) := by
  induction l with
  | nil => simp [insertRecord]
  | cons x xs ih =>
    have hx := List.pairwise_cons.1 h
    have hid := hn x (by simp)
    simp only [insertRecord]
    split
    · rename_i hb
      simp only [PeerRecord.before, Bool.or_eq_true, Bool.and_eq_true, decide_eq_true_eq] at hb
      refine List.pairwise_cons.2 ⟨fun a ha => ?_, h⟩
      rcases List.mem_cons.1 ha with rfl | ha
      · exact hb
      · have := hx.1 a ha
        omega
    · rename_i hb
      simp only [PeerRecord.before, Bool.or_eq_true, Bool.and_eq_true, decide_eq_true_eq, not_or, not_and] at hb
      refine List.pairwise_cons.2 ⟨fun a ha => ?_, ih hx.2 (fun r hr => hn r (by simp [hr]))⟩
      rcases (insertRecord_mem p xs a).1 ha with rfl | ha
      · omega
      · exact hx.1 a ha

/-- The victim of a table is one of its records. -/
theorem victim_mem (l : List PeerRecord) (v : PeerRecord) (h : s.victim l = some v) : v ∈ l := by
  induction l generalizing v with
  | nil => simp [State.victim] at h
  | cons x xs ih =>
    simp only [State.victim] at h
    split at h
    · simp_all
    · rename_i w hw
      split at h <;> simp only [Option.some.injEq] at h <;> subst h
      · simp
      · simp [ih _ hw]

/-- A record write notice is taken in one of the orders of its three readers (R59). -/
theorem writeNotice_cases (p : PeerRecord) :
    let counted := s.setFreeCount (s.freeCount + 1)
    writeNotice p s = adoptionTest p (doubleHolderTest p (linkHeard p counted)) ∨
    writeNotice p s = doubleHolderTest p (adoptionTest p (linkHeard p counted)) ∨
    writeNotice p s = adoptionTest p (linkHeard p (doubleHolderTest p counted)) ∨
    writeNotice p s = linkHeard p (adoptionTest p (doubleHolderTest p counted)) ∨
    writeNotice p s = doubleHolderTest p (linkHeard p (adoptionTest p counted)) ∨
    writeNotice p s = linkHeard p (doubleHolderTest p (adoptionTest p counted)) := by
  have h := freeOrder_cases s
    [fun s => adoptionTest p (doubleHolderTest p (linkHeard p s)),
     fun s => doubleHolderTest p (adoptionTest p (linkHeard p s)),
     fun s => adoptionTest p (linkHeard p (doubleHolderTest p s)),
     fun s => linkHeard p (adoptionTest p (doubleHolderTest p s)),
     fun s => doubleHolderTest p (linkHeard p (adoptionTest p s)),
     fun s => linkHeard p (doubleHolderTest p (adoptionTest p s))] (by simp)
  obtain ⟨f, hf, he⟩ := h
  simp only [List.mem_cons, List.not_mem_nil, or_false] at hf
  change writeNotice p s = _ at he
  intro counted
  rw [he]
  rcases hf with rfl | rfl | rfl | rfl | rfl | rfl <;> simp [counted]

/-- A beacon writes its record, is counted as old, or meets a full table (section 3.4). -/
theorem beaconArrival_cases (b : Beacon) (stamp : Time) :
    beaconArrival b stamp s = writeRecord (recordOf b stamp) (removeId b.sender s.peers.records) s ∨
    beaconArrival b stamp s = s.setCounters { s.counters with oldSequence := bump s.counters.oldSequence } ∨
    (findId b.sender s.peers.records = none ∧
      (beaconArrival b stamp s = writeRecord (recordOf b stamp) s.peers.records s ∨
        beaconArrival b stamp s = weighNewcomer (recordOf b stamp) s)) := by
  unfold beaconArrival
  cases h : findId b.sender s.peers.records with
  | none => simp only; split <;> simp
  | some held => simp only; split <;> simp

/-! ### Narrow Unit -/

theorem beaconNowIf_frame (b : Bool) : beaconNowIf b s = s.setAir { s.air with beaconNow := b || s.air.beaconNow } := by
  cases b <;> rfl

/-- A change into WAITING is made with its push, or refused with a lockout that leaves the relations (R120, R148). -/
theorem enterWaiting_cases (i : Nat) :
    (s.pushOverruns .narrowWait = true ∧ enterWaiting i s = enterLockout .holdOverrun s) ∨
    (s.pushOverruns .narrowWait = false ∧
      let pushed := pushHold .narrowWait none (s.setNarrowRecord i (s.narrowRecord i).toWaiting)
      enterWaiting i s =
        beaconNowIf (decide ((s.narrowRecord i).relation = .holding))
          (pushed.setNarrow { pushed.narrow with waitAgeTimer := some s.time })) := by
  cases h : s.pushOverruns .narrowWait
  · right
    exact ⟨rfl, by simp [enterWaiting, h]⟩
  · left
    refine ⟨rfl, ?_⟩
    simp only [enterWaiting, h, if_true]
    simp only [State.pushOverruns, Bool.and_eq_true, Bool.not_eq_true', decide_eq_true_eq] at h
    obtain ⟨⟨h1, h2⟩, h3⟩ := h
    rcases pushHold_cases s .narrowWait none with h' | h' | h' | h'
    · simp [h1] at h'
    · simp [h2] at h'
    · omega
    · exact h'.2.2.2

theorem enterWaiting_frame (i : Nat) :
    enterWaiting i s =
      (((s.setNarrow (enterWaiting i s).narrow).setHolds (enterWaiting i s).holds).setDrive
        (enterWaiting i s).drive).setAir (enterWaiting i s).air := by
  unfold enterWaiting beaconNowIf requestBeaconNow
  dsimp only
  split
  · conv_lhs => rw [pushHold_frame]
    rw [show (pushHold .narrowWait none s).narrow = s.narrow by rw [pushHold_frame]; rfl]
    rfl
  · rw [pushHold_frame]
    split <;> rfl

theorem enterHolding_frame (i : Nat) (inherited : Bool) :
    enterHolding i inherited s =
      ((((s.setNarrow (enterHolding i inherited s).narrow).setHolds (enterHolding i inherited s).holds).setDrive
        (enterHolding i inherited s).drive).setSpacing (enterHolding i inherited s).spacing).setAir
          (enterHolding i inherited s).air := by
  unfold enterHolding releaseWaitIf requestBeaconNow
  dsimp only
  split
  · rw [releaseHold_frame]
    rfl
  · rfl

/-- A change into HOLDING writes one record, and touches no other (R148). -/
theorem enterHolding_records (i : Nat) (inherited : Bool) :
    (enterHolding i inherited s).narrow =
      (s.setNarrowRecord i ((s.narrowRecord i).toHolding inherited)).narrow := by
  unfold enterHolding releaseWaitIf requestBeaconNow
  dsimp only
  split
  · rw [releaseHold_frame]
    rfl
  · rfl

/-- A drop of a relation writes one record, and touches no other (R148). -/
theorem dropRelation_records (i : Nat) (h : (s.narrowRecord i).relation ≠ .none) :
    (dropRelation i s).narrow = (s.setNarrowRecord i (s.narrowRecord i).toNone).narrow := by
  unfold dropRelation releaseWaitIf
  simp only [h, if_false, beaconNowIf_frame]
  split
  · rw [releaseHold_frame]
    rfl
  · rfl

/-- An answer is merged, added, or finds the queue full (R150). -/
theorem queueAnswer_length (q : List AnswerEntry) (e : AnswerEntry) (h : q.length ≤ 4) :
    (queueAnswer q e).length ≤ 4 := by
  unfold queueAnswer
  split
  · simpa using h
  · split
    · simp only [List.length_append, List.length_cons, List.length_nil]
      omega
    · exact h

theorem takeAnswer_frame (e : AnswerEntry) :
    takeAnswer e s = (s.setNarrow (takeAnswer e s).narrow).setCounters (takeAnswer e s).counters := by
  unfold takeAnswer
  dsimp only
  split <;> rfl

/-! ### Orders and membership -/

/-- An order acted on writes the Hold Stack and what a push or a release may touch (R164, R165). -/
theorem actOnOrder_frame (code : OrderCode) :
    actOnOrder code s =
      (((s.setHolds (actOnOrder code s).holds).setDrive (actOnOrder code s).drive).setSpacing
        (actOnOrder code s).spacing).setAir (actOnOrder code s).air := by
  cases code
  · rfl
  · simp only [actOnOrder]
    conv_lhs => rw [pushHold_frame]
    rw [show (pushHold .convoyStop none s).spacing = s.spacing by rw [pushHold_frame]; rfl]
    rfl
  · simp only [actOnOrder]
    have h1 := releaseHold_frame (releaseHold .convoyStop s) .linkLoss
    have h2 := releaseHold_frame s .convoyStop
    generalize releaseHold .linkLoss (releaseHold .convoyStop s) = t at *
    generalize releaseHold .convoyStop s = u at *
    refine h1.trans ?_
    rw [h2]
    rfl

/-- A join notice writes the order record alone (R166). -/
theorem joinNotice_frame (id : Nat) : joinNotice id s = s.setOrder (joinNotice id s).order := by
  unfold joinNotice
  repeat' split
  all_goals rfl

/-- The step sample is taken before the stages of the control step or after them (R40, R98). -/
theorem spacingStep_cases :
    let counted := s.setFreeCount (s.freeCount + 1)
    spacingStep s = spacingStages (takeSample counted) ∨ spacingStep s = takeSample (spacingStages counted) := by
  obtain ⟨f, hf, he⟩ :=
    freeOrder_cases s [fun s => spacingStages (takeSample s), fun s => takeSample (spacingStages s)] (by simp)
  simp only [List.mem_cons, List.not_mem_nil, or_false] at hf
  change spacingStep s = _ at he
  intro counted
  rw [he]
  rcases hf with rfl | rfl <;> simp [counted]

/-! ### Air Port -/

/-- BACKOFF starts in SENSE on a clear channel, and else nothing changes (R37). -/
theorem startBackoff_cases :
    startBackoff s = s ∨
    ∃ c attempts busySince, s.air.transmitter = .sense c attempts busySince ∧ s.channelClear = true ∧
      startBackoff s =
        s.afterDraw.setTransmitter (.backoff c attempts { start := s.time, period := s.drawValue % 8 * 4 }) := by
  unfold startBackoff
  split
  · rename_i c attempts busySince h
    split
    · rename_i hc
      exact .inr ⟨c, attempts, busySince, h, hc, rfl⟩
    · exact .inl rfl
  · exact .inl rfl

theorem startBackoff_frame : startBackoff s = s.setAir (startBackoff s).air := by
  unfold startBackoff
  repeat' split
  all_goals rfl

/-- One more busy attempt returns to SENSE, or drops the frame at the eighth (R37, R38, R39). -/
theorem busyAttempt_cases (c : FrameClass) (attempts : Nat) :
    (attempts < 7 ∧ busyAttempt c attempts s = s.setTransmitter (.sense c (attempts + 1) s.busyMeasure)) ∨
    (7 ≤ attempts ∧ busyAttempt c attempts s = dropFrame c s) := by
  unfold busyAttempt
  by_cases h : attempts < 7
  · exact .inl ⟨h, if_pos (by omega)⟩
  · exact .inr ⟨by omega, if_neg (by omega)⟩

/-! ### Sensors and Service Line -/

/-- An activation has no effect in START and LOCKOUT, and else counts one stop after its push and its notices, taken in
either order (R173). -/
theorem obstructionActivation_cases :
    (s.stackClosed = true ∧ obstructionActivation s = s) ∨
    (s.stackClosed = false ∧
      ∃ t, (t = spacingKillNotice (obstructionKillNotice (pushHold .obstruction none (s.setFreeCount (s.freeCount + 1)))) ∨
          t = pushHold .obstruction none (obstructionKillNotice (spacingKillNotice (s.setFreeCount (s.freeCount + 1))))) ∧
        obstructionActivation s =
          t.setCounters { t.counters with obstructionStop := bump t.counters.obstructionStop }) := by
  cases h : s.stackClosed
  · right
    obtain ⟨f, hf, he⟩ :=
      freeOrder_cases s
        [fun s => spacingKillNotice (obstructionKillNotice (pushHold .obstruction none s)),
         fun s => pushHold .obstruction none (obstructionKillNotice (spacingKillNotice s))] (by simp)
    simp only [List.mem_cons, List.not_mem_nil, or_false] at hf
    refine ⟨rfl, f (s.setFreeCount (s.freeCount + 1)), ?_, ?_⟩
    · rcases hf with rfl | rfl
      · exact .inl rfl
      · exact .inr rfl
    · simp only [obstructionActivation, h, Bool.false_eq_true, if_false, he]
  · left
    exact ⟨rfl, by simp [obstructionActivation, h]⟩

/-- A request is taken, waits behind the response being sent, or is dropped and counted (R186). -/
theorem requestArrives_cases (r : Request) :
    (s.service.response = none ∧ s.service.pendingRequest = none ∧ requestArrives r s = takeRequest r s) ∨
    (s.service.response ≠ none ∧ s.service.pendingRequest = none ∧
      requestArrives r s = s.setService { s.service with pendingRequest := some r }) ∨
    (s.service.pendingRequest ≠ none ∧
      requestArrives r s = s.setCounters { s.counters with requestDropped := bump s.counters.requestDropped }) := by
  unfold requestArrives
  cases h1 : s.service.response <;> cases h2 : s.service.pendingRequest <;> simp

end Sys2Proof.Machine
end

