-- ==== Sys2Proof/Laws/Reception.lean ====
section
/-!
SUPPORT. What reception can do: a received frame that closes, the judgement of a completed frame, and the transmit frame.
-/

namespace Sys2Proof.Machine

variable (s : State)

/-- The frame closed and the channel found clear or not is the closed state of Safety. -/
theorem startBackoff_closed : startBackoff (s.setReception .closed) = s.frameClosed := by
  unfold startBackoff State.frameClosed State.setReception State.channelClear
  cases h : s.air.transmitter <;> cases hb : s.air.busy <;>
    simp [h, hb, State.setAir, State.afterDraw, State.drawValue, State.setTransmitter, Reception.isOpen]

/-- A frame that closes changes the Air Port alone. -/
theorem frameClosed_frame : s.frameClosed = s.setAir s.frameClosed.air := by
  unfold State.frameClosed; repeat' split
  all_goals rfl

/-- A completed frame is judged, or is dropped for want of a configuration; with none nothing changes (R27, R29). -/
theorem receiveFrame_cases :
    (∃ f, s.air.reception = .complete f ∧ s.validConfig = true ∧ receiveFrame s = judgeFrame f s.frameClosed) ∨
    (∃ f, s.air.reception = .complete f ∧ s.validConfig = false ∧ receiveFrame s = s.frameClosed) ∨
    ((∀ f, s.air.reception ≠ .complete f) ∧ receiveFrame s = s) := by
  have hv : s.frameClosed.validConfig = s.validConfig := by rw [frameClosed_frame]; rfl
  unfold receiveFrame
  rw [startBackoff_closed]
  cases s.air.reception with
  | complete f => cases h : s.validConfig <;> simp [hv, h]
  | closed => simp
  | opened f => simp

/-- A completed frame is counted by the check it fails, or is passed on (R28, R29). -/
theorem judgeFrame_cases (f : CompleteFrame) :
    (∃ c, judgeFrame f s = s.setCounters c) ∨
    judgeFrame f s =
      (s.setCounters { s.counters with idClash := bump s.counters.idClash }).setAir { s.air with clash := true } ∨
    ∃ frame, checkFrame s.ownId f.malformed f.buffer = .accepted frame ∧ judgeFrame f s = passOn frame f.stamp s := by
  unfold judgeFrame
  split
  · exact .inl ⟨_, rfl⟩
  · exact .inl ⟨_, rfl⟩
  · exact .inl ⟨_, rfl⟩
  · exact .inr (.inl rfl)
  · exact .inr (.inr ⟨_, ‹_›, rfl⟩)

/-- The transmit frame of each frame: its count byte first (R21, section 2.2). -/
theorem transmitFrame_bytes (f : Frame) :
    transmitFrame f.bytes = (match f with | .beacon _ => 17 | .ask _ => 6 | .object _ => 7) :: f.bytes := by
  cases f <;> rfl

end Sys2Proof.Machine
end

