-- ==== Sys2Proof/WellFormed.lean ====
section
/-!
DEFINITION. Which commands are well formed. Bytes, levels, channels and line states are well formed by their types; a
measured pulse has a width.
-/

namespace Sys2Proof

/-- A command whose operands can stand for something that happened at the part's lines: a pulse that was measured
(R155) has a width of at least 1 µs. -/
def Instr.wellFormed : Instr → Bool
  | .throttlePulse w => decide (0 < w)
  | .modePulse w => decide (0 < w)
  | .powerOn | .loadByteTimeout | .loadFailure | .loadSuccess | .restart | .encoderEdge | .markerCode _ | .hitchEdge _
  | .hitchDebounceExpiry | .obstEdge _ | .obstDebounceExpiry | .sync | .receivedFrame | .frameTimeout | .transmitReport
  | .beaconDue | .arbiterGrant | .busyChange _ | .busyAttemptTimeout | .backoffEnd | .frameHanded | .radioTimeout
  | .spacingStep | .driveStep | .pwmPeriodEnd | .sweep | .narrowStep | .askDue | .answerWindowEnd | .answerExpiry
  | .waitAgeExpiry | .channelAbsent _ | .stopTimerExpiry | .resetGesture | .lampTimebaseBoundary | .status | .peers
  | .holds | .narrows | .counters | .config | .clear | .resume | .restartRequest | .unknownWord | .responseEnd
  | .receivedFrameByte _ | .imageByte _ | .receivedCharacter _ => true

end Sys2Proof
end

