-- ==== Sys2Proof/Tests/Slice0.lean ====
section
/-!
SUPPORT. The model's own tests. The worked cases and sequences of the data book, with the results the book gives; the smoke
test of WellFormed; and for each statement of `Sys2Proof.Certificates.Slice0.Obligations` that has hypotheses a concrete state
and operands that meet them (`witness_<statement>`).
-/

namespace Sys2Proof.Tests

open Sys2Proof Sys2Proof.Machine

/-! ### Small states -/

/-- A configuration in the manner of the book's worked cases. -/
def config : WorkingConfig :=
  { WorkingConfig.blank with
    stationId := 5, lTractor := 320, lTrailer := 480, eS := 1000, readerOffset := 120, hitchPolarity := .activeHigh
    obstPolarity := .activeHigh, brakeFitted := true, amberFitted := true, headFitted := true, pB := 20, wAhead := 3000
    hLimit := 1000, g0 := 150, th := 700, kg := 32, vMax := 600, vCruise := 450, vCreep := 100, aUp := 400, aDn := 400
    gJoin := 800, gSplit := 1200, tSplit := 500, tPark := 5000, kFf := 300, kP := 40, kI := 8, lRoad := 24000, snap := 100
    drift := 4000, dClaim := 1500, dStop := 200, nAsk := 2, askInterval := 60, wAns := 200
    markers := [{ code := 17, position := 20000, kind := 0, disabled := none },
      { code := 18, position := 23700, kind := 2, disabled := none }]
    narrows := [{ lo := 5000, hi := 6000, disabled := none }] }

/-- A station that has loaded the configuration: a HEAD of its own convoy, UP at 12,000 mm, with its step timers due. -/
def station : State :=
  { State.reset with
    time := 1000, config := some config, loader := { phase := .idle, reason := .none, clamped := [] }
    road := { RoadTracker.powerOn with posUm := 12000000, quality := .good, rigLength := 320 }
    spacing := { SpacingUnit.powerOn with role := .head, convoyId := 5, stepTimer := some 980 }
    drive := { DriveUnit.powerOn with stepTimer := some 980 }
    narrow := { NarrowUnit.powerOn with records := [.idle], stepTimer := some 980 } }

/-- The same station with its front at a place in mm. -/
def stationAt (front : Nat) : State := { station with road := { station.road with posUm := front * 1000 } }

/-- The same station with holds of these causes, all held, top first. -/
def stationHeld (causes : List HoldCause) : State :=
  { station with holds.stack := causes.map fun cause =>
      { cause := cause, pushedAt := 900, modeBefore := .head, vRefAtPush := 0, released := false, lostId := none } }

/-- The same station locked out by a hold overrun, with its outputs as R110 leaves them. -/
def stationLocked : State :=
  { station with
    holds.lockout := .holdOverrun
    drive := { station.drive with applied := .brakeHold, buffer := .brakeHold } }

/-- The same station in LOCKOUT with cause CONFIG. -/
def stationUnconfigured : State := { station with holds.lockout := .config }

/-- A peer that runs UP with its front at a place, heard 68 ms ago. -/
def peer (id front : Nat) : PeerRecord :=
  { id := id, lastSequence := 1, stamp := 932, lead := 12, position := front, direction := .up, quality := .good, speed := 380
    braking := false, rigLength := 600, mode := .head, convoyId := 9, memberIndex := 0, period := 200, narrowPart := none
    orderPart := none, first := false }

/-- The station with these peer records. -/
def stationHearing (s : State) (records : List PeerRecord) : State := { s with peers.records := records }

/-- A test over the state a command leaves. -/
def after (c : Instr) (s : State) (p : State → Bool) : Bool :=
  match exec c s with
  | .next t => p t
  | .fault _ | .refused _ => false

/-- A step answers a next state. -/
def stepsOn (s : State) : Bool :=
  match step s with
  | .next _ => true
  | .fault _ | .refused _ => false

/-! ### Syntax, WellFormed, Decode -/

theorem test_pulse_of_no_width_is_refused :
    (Instr.throttlePulse 0).wellFormed = false ∧ (Instr.modePulse 0).wellFormed = false ∧
      (Instr.throttlePulse 1).wellFormed = true ∧ Instr.powerOn.wellFormed = true := by decide

theorem test_no_word_spells_a_command : decodeTableWord 32 0 = none := by decide

/-! ### Worked cases of the data book -/

/-- Section 2.9: successive draws from 54,371. -/
theorem test_draws_of_section_2_9 :
    ([54371, 27185, 13592, 39564, 19782, 42659, 21329].map fun n => (jitterStep (BitVec.ofNat 16 n)).toNat) =
      [27185, 13592, 39564, 19782, 42659, 21329, 43432] := by decide

/-- R24: the CRC over the bytes 49 to 57. -/
theorem test_crc_of_R24 : crc [49, 50, 51, 52, 53, 54, 55, 56, 57] = 0x29B1 := by decide +kernel

/-- R36: with only ASK and BEACON waiting, ASK is granted and the rotation becomes OBJECT, BEACON, ASK. -/
theorem test_rotation_of_R36 : rotate [.object, .ask, .beacon] .ask = [.object, .beacon, .ask] := by decide

/-- The station of section 1.8 before step 2. -/
def yard : State :=
  { station with
    config := some { config with eS := 1250 }
    road :=
      { RoadTracker.powerOn with
        posUm := 19870000, quality := .drift, sinceMarkerUm := 4070000, hitch := .coupled, rigLength := 800 } }

/-- Section 1.8, step 2: code 17 corrects by 250 mm. -/
theorem test_position_marker_of_section_1_8 :
    after (.markerCode 17) yard (fun t => decide (t.road.posUm = 20120000 ∧ t.road.quality = .poor ∧
      t.road.sinceMarkerUm = 0 ∧ t.counters.largeCorrection = 1)) = true := by decide

/-- Section 1.8, step 4: code 18 corrects by 13 mm and turns the rig. -/
theorem test_turn_marker_of_section_1_8 :
    after (.markerCode 18) { yard with road := { yard.road with posUm := 23807500, quality := .poor } }
      (fun t => decide (t.road.posUm = 23820000 ∧ t.road.quality = .good ∧ t.road.direction = .down ∧
        t.road.turnSpacing = true ∧ t.road.turnNarrow = true ∧ t.rear = 24620)) = true := by decide

/-- The station of section 5.12. -/
def following : State :=
  stationHearing
    { station with
      config := some { config with
        segments := List.replicate 23 { gradeBias := 0, capCode := 0 } ++ [{ gradeBias := 36, capCode := 8 }]
        gradeBiasOn := true }
      spacing := { station.spacing with
        role := .follow, convoyId := 9, memberIndex := 1, vRef := 398 }
      drive := { station.drive with vMeas := 400, applied := { state := .drive, duty := 531 } } }
    [peer 3 13050]

/-- Section 5.12: V_ref 405 and BRAKING clear. -/
theorem test_steady_following_of_section_5_12 :
    after .spacingStep following (fun t => decide (t.spacing.vRef = 405 ∧ t.spacing.braking = false ∧
      t.spacing.closeIn = false ∧ t.spacing.predecessor = some { id := 3, gap := 480 })) = true := by decide +kernel

/-- Section 6.12: D 538 into the buffer. -/
theorem test_steady_following_of_section_6_12 :
    after .driveStep
      { following with
        spacing.vRef := 405
        drive := { following.drive with edgeCount := 8, integral := 6400 } }
      (fun t => decide (t.drive.vMeas = 400 ∧ t.drive.integral = 6402 ∧ t.drive.edgeCount = 0 ∧
        t.drive.buffer = { state := .drive, duty := 538 } ∧ t.drive.updatePending = true)) = true := by decide +kernel

/-- Section 6.14, at 80: off again from BRAKE_HOLD with D 14. -/
theorem test_moving_off_of_section_6_14 :
    after .driveStep { station with spacing.vRef := 8, drive := { station.drive with applied := .brakeHold } }
      (fun t => decide (t.drive.integral = 4 ∧ t.drive.buffer = { state := .drive, duty := 14 })) = true := by decide +kernel

/-- Section 6.14, at 0: the kill under close-in. -/
theorem test_kill_of_section_6_14 :
    after .driveStep
      { station with spacing.closeIn := true, drive := { station.drive with edgeCount := 6, integral := 2000 } }
      (fun t => decide (t.drive.vMeas = 300 ∧ t.drive.integral = 0 ∧
        t.drive.applied = { state := .brake, duty := -1023 } ∧ t.drive.updatePending = false)) = true := by decide +kernel

/-! ### Witnesses: what meets the hypotheses of each statement -/

/-- The station with nothing of its own to do: its periods run, and its lamp lines show the state. -/
def calm : State :=
  settleLamps
    { station with
      peers.sweepTimer := 950, spacing.stepTimer := some 990, drive.stepTimer := some 990, narrow.stepTimer := some 990 }

theorem witness_StepRunsTheFrontCommand :
    calm.pending = [] ∧ calm.ownEvents = [] ∧
      { calm with drive.updatePending := true }.ownEvents = [.pwmPeriodEnd] ∧
      (let s := { calm with drive.updatePending := true, peers.sweepTimer := 900 }
       s.pending = [] ∧ 2 ≤ s.ownEvents.length) := by decide +kernel

theorem witness_EveryCommandCompletes :
    (Instr.sweep ∉ calm.ownEvents) ∧ (Instr.loadFailure ∉ State.reset.ownEvents) ∧
      (Instr.resetGesture ∉ calm.ownEvents) := by decide +kernel

theorem witness_CountersFallOnlyToZero :
    yard.CountersSound ∧ after (.markerCode 255) yard (fun t => decide (t.counters.unreadableMarker = 1)) = true ∧
      after .clear { yard with counters.crcError := 7 } (fun t => decide (t.counters = .zero)) = true := by decide +kernel

/-- A load at its 200th millisecond. -/
def loadingStation : State := { State.reset with time := 200 }

theorem witness_LoadReadsAndChecksTheImage :
    loadingStation.loader.phase = .reading [] 0 ∧ 200 ≤ (loadingStation.time - (0 : Time)).toNat := by decide

/-- An image of 452 bytes for station 5, with no markers, no narrows and every other field 0. -/
def bareImage : List Byte := [1, 1, 196, 5] ++ List.replicate 446 0 ++ [0, 203]

theorem test_bare_image_passes_the_checks :
    headerFault bareImage = none ∧ imageFault bareImage = none ∧ bareImage.length = 452 := by decide +kernel

/-- The load of an image, ended in an outcome, on a line that is not obstructed. -/
def loaded (outcome : LoadOutcome) : State :=
  { loadingStation with loader.phase := .ended bareImage outcome, sensors.obstLine := .high }

theorem witness_FailedLoadLocksOut : (loaded (some .sum)).loader.phase = .ended bareImage (some .sum) := by decide +kernel

/-- An image of 460 bytes for station 5 with one marker and one narrow, and the first segment's bias and cap out of range. -/
def fullImage : List Byte :=
  [1, 1, 204, 5] ++ List.replicate 60 0 ++ [1, 1] ++ [17, 3, 232, 2] ++ [0, 100, 1, 244] ++ [128, 0, 16] ++
    List.replicate 381 0 ++ [3, 188]

theorem witness_LoadedFieldsAreClamped :
    (loaded none).loader.phase = .ended bareImage none ∧ headerFault fullImage = none ∧ imageFault fullImage = none ∧
      after .loadSuccess { loaded none with loader.phase := .ended fullImage none } (fun t => decide (
        t.config.map (fun c => (c.markers.map (fun m => (m.code, m.position, m.kind)),
          c.narrows.map (fun e => (e.lo, e.hi)), c.segments.length, (c.segments.getD 0 ⟨0, 0⟩).gradeBias,
          (c.segments.getD 0 ⟨0, 0⟩).capCode)) = some ([(17, 1000, 2)], [(100, 500)], 128, -255, 15) ∧
        .gradeBias 0 ∈ t.loader.clamped ∧ .zoneCap 0 ∈ t.loader.clamped ∧ .gradeBias 1 ∉ t.loader.clamped)) = true := by
  refine ⟨?_, ?_, ?_, ?_⟩ <;> decide +kernel

theorem witness_SuccessfulLoadStartsTheStation :
    (loaded none).loader.phase = .ended bareImage none ∧
      rawActive (configOf bareImage).obstPolarity (loaded none).sensors.obstLine = false ∧
      (let s := { loaded none with sensors.obstLine := .low }
       s.loader.phase = .ended bareImage none ∧ rawActive (configOf bareImage).obstPolarity s.sensors.obstLine = true ∧
         s.holds = { stack := [], lockout := .none } ∧ s.spacing.role = .parked ∧ s.spacing.vRef = 0 ∧
         s.drive.vMeas = 0) := by
  refine ⟨?_, ?_, ?_⟩ <;> decide +kernel

theorem witness_RestartKeepsThePlace :
    station.loading = false ∧ station.holds.lockout ≠ .config ∧ station.obstRaw = false ∧
      (let s := { station with sensors.obstLine := .high }
       s.loading = false ∧ s.holds.lockout ≠ .config ∧ s.config ≠ none ∧ s.obstRaw = true) := by decide

/-- A response being sent to a request. -/
def answering (q : Request) : State := { station with service.response := some { request := q, lines := [.ok, .finish] } }

theorem witness_RestartReloads :
    State.reset.loading = true ∧ stationUnconfigured.holds.lockout = .config ∧
      (let s := { station with time := 3000, handset.resetTimer := some 0 }
       s.handset.resetTimer = some 0 ∧ 3000 ≤ (s.time - (0 : Time)).toNat ∧ s.mode ≠ .start) ∧
      ((answering .restart).service.response = some { request := .restart, lines := [.ok, .finish] }) := by decide

/-- Three marker entries, two of one code. -/
def markerEntries : List MarkerEntry :=
  [{ code := 17, position := 20000, kind := 0, disabled := none },
   { code := 17, position := 21000, kind := 0, disabled := none },
   { code := 255, position := 99, kind := 9, disabled := none }]

/-- R182: the second entry repeats a code, and the third fails its first test. -/
theorem test_marker_tests_of_R182 :
    (testMarkers 24000 markerEntries).map (fun m => m.disabled) = [none, some .duplicate, some .code] := by decide

theorem witness_MarkerEntriesAreTested :
    markerEntries[1]? = some { code := 17, position := 21000, kind := 0, disabled := none } := by decide

/-- The sample narrow table of section 8.1. -/
def narrowEntries : List NarrowEntry :=
  [(5000, 6000), (9000, 8500), (11000, 12500), (12000, 13000), (20000, 22000), (39000, 41000)].map fun b =>
    { lo := b.1, hi := b.2, disabled := none }

/-- Section 8.1: the outcomes of the sample table. -/
theorem test_narrow_table_of_section_8_1 :
    (checkNarrows 40000 1500 200 narrowEntries).map (fun e => e.disabled) =
      [none, some .order, some .spacing, none, none, some .range] := by decide

theorem witness_NarrowEntriesAreChecked :
    narrowEntries[2]? = some { lo := 11000, hi := 12500, disabled := none } := by decide

theorem witness_EncoderEdgeMovesTheRig :
    station.loading = false ∧ station.holds.lockout ≠ .config ∧ State.reset.loading = true ∧
      State.reset.drive.stepTimer = none := by decide

theorem witness_MarkerCodesAreClassified :
    State.reset.loading = true ∧ station.loading = false ∧ station.holds.lockout ≠ .config ∧
      (∀ m ∈ station.cfg.markers, m.disabled = none → m.code ≠ (99 : Byte).toNat) ∧
      station.cfg.markers.find? (fun x => x.disabled.isNone && decide (x.code = (18 : Byte).toNat)) =
        some { code := 18, position := 23700, kind := 2, disabled := none } := by decide

/-- The station 200 ms after both switch lines began to differ from their conditioned levels. -/
def debouncing : State :=
  { station with
    sensors := { station.sensors with hitchTimer := some 800, hitchActive := true, obstActive := true, obstTimer := some 800 } }

theorem witness_HitchIsDebounced :
    station.config ≠ none ∧ Level.high ≠ station.sensors.hitchLine ∧ debouncing.config ≠ none ∧
      debouncing.sensors.hitchTimer = some 800 ∧ 200 ≤ (debouncing.time - (800 : Time)).toNat ∧
      State.reset.config = none := by decide

theorem witness_ObstructionReleaseIsDebounced :
    debouncing.config ≠ none ∧ debouncing.sensors.obstActive = true ∧ Level.high ≠ debouncing.sensors.obstLine ∧
      debouncing.sensors.obstTimer = some 800 ∧ 200 ≤ (debouncing.time - (800 : Time)).toNat := by decide

/-- The stack of section 7.8 at 3,720. -/
def fullStack : State := stationHeld [.handsetStop, .linkLoss, .convoyStop, .narrowWait]

theorem witness_ObstructionActivates :
    station.config ≠ none ∧ Level.high ≠ station.sensors.obstLine ∧
      rawActive station.cfg.obstPolarity .high = true ∧ station.sensors.obstActive = false ∧
      station.mode ≠ .start ∧ station.mode ≠ .lockout ∧ stationLocked.mode = .lockout ∧
      (fullStack.holds.has .obstruction = false ∧ 4 ≤ fullStack.holds.stack.length) := by decide

/-- Section 7.8, at 4,050: OBSTRUCTION onto four records is a hold overrun, and the stack stays. -/
theorem test_overrun_of_section_7_8 :
    after (.obstEdge .high) fullStack (fun t => decide (t.mode = .lockout ∧ t.holds.lockout = .holdOverrun ∧
      t.holds.stack = fullStack.holds.stack ∧ t.counters.obstructionStop = 1)) = true := by decide +kernel

/-- A BEACON with every field at the top of its range. -/
def widestBeacon : Beacon :=
  { first := true, braking := true, sender := 30, direction := .down, quality := .unknown, sequence := 255, lead := 255
    front := 65535, mode := .lockout, speed := 1023, memberIndex := 15, rigLength := 4095, convoyId := 31, narrow := 7
    relation := .holding, orderCode := .resumeAll, orderSeq := 15, waitAge := 255, orderHop := 15, period := 200 }

/-- An ASK of station 8 running DOWN, for narrow 0. -/
def anAsk : AskFrame := { sender := 8, direction := .down, narrow := 0, waitAge := 3 }

/-- An OBJECT of station 8 running DOWN to station 5, for narrow 0. -/
def anObject : ObjectFrame :=
  { sender := 8, direction := .down, target := 5, narrow := 0, relation := .holding, waitAge := 3 }

theorem witness_FramesReadBackAsBuilt :
    widestBeacon.Sound ∧ widestBeacon.sender ≠ 5 ∧ anAsk.Sound ∧ anAsk.sender ≠ 5 ∧ anObject.Sound ∧
      anObject.sender ≠ 5 := by decide

theorem witness_JitterDrawsAndSeeds : State.reset.air.jitter ≠ 0 := by decide

/-- A frame that has been open for 20 ms, with one byte of two taken. -/
def openFrame : OpenFrame := { stamp := 980, count := some 2, taken := 1, buffer := [0] }

theorem witness_FramesAreCollected :
    (station.air.transmitter = .idle ∧ station.air.reception = .closed) ∧
      ({ station with air.reception := .opened openFrame }.air.reception = .opened openFrame ∧
        20 ≤ (station.time - openFrame.stamp).toNat) ∧
      (let s := { stationUnconfigured with air.reception := .opened openFrame }
       s.air.reception = .opened openFrame ∧ s.loading = false ∧ s.holds.lockout = .config ∧
         after .frameTimeout s (fun t => decide (t.air.reception = .closed ∧ t.counters = s.counters)) = true) ∧
      (let s := { station with air.reception := .complete { stamp := 990, buffer := [0, 0, 0], malformed := false } }
       after .receivedFrame s (fun t => decide (t.counters.crcError = 1)) = true ∧
         after .sync s (fun t => decide (t.counters.crcError = 1)) = true) := by decide +kernel

/-- A transmitter in SENSE with BUSY clear enters BACKOFF as a frame times out (R37). -/
theorem test_sense_ends_as_a_frame_closes :
    after .frameTimeout { station with air.reception := .opened openFrame, air.transmitter := .sense .ask 2 none }
      (fun t => decide (t.air.jitter = jitterStep station.air.jitter ∧
        t.air.transmitter =
          .backoff .ask 2 { start := 1000, period := (jitterStep station.air.jitter).toNat % 8 * 4 })) = true := by
  decide +kernel

/-- A completed frame of these bytes. -/
def frameOf (bytes : List Byte) : CompleteFrame := { stamp := 990, buffer := bytes, malformed := false }

/-- A station with a completed frame. -/
def receiving (s : State) (bytes : List Byte) : State := { s with air.reception := .complete (frameOf bytes) }

/-- The frame fails the length check of R27, as the statement says it. -/
def tooShort (f : List Byte) : Bool :=
  decide (f.length < 3) || decide (frameByte f 0 / 16 = 1 ∧ f.length ≠ 17) ||
    decide (frameByte f 0 / 16 = 2 ∧ f.length ≠ 6) || decide (frameByte f 0 / 16 = 3 ∧ f.length ≠ 7)

/-- The last two bytes of a frame do not hold the CRC of the others. -/
def crcWrong (f : List Byte) : Bool := decide (f.drop (f.length - 2) ≠ twoBytes (crc (f.take (f.length - 2))).toNat)

theorem witness_RefusedFramesAreCounted :
    (receiving station []).air.reception = .complete (frameOf []) ∧ (receiving State.reset []).loading = true ∧
      (receiving station []).loading = false ∧ (receiving station []).holds.lockout ≠ .config ∧
      (receiving stationUnconfigured []).holds.lockout = .config ∧ tooShort [] = true ∧ tooShort [32, 0, 0] = true ∧
      (tooShort [0, 0, 0] = false ∧ crcWrong [0, 0, 0] = true) ∧
      (tooShort (withCrc [0]) = false ∧ crcWrong (withCrc [0]) = false ∧ frameByte (withCrc [0]) 0 / 16 = 0) ∧
      (let f := askBytes { anAsk with sender := 31 }
       tooShort f = false ∧ crcWrong f = false ∧ frameByte f 0 / 16 = 2 ∧ frameByte f 1 / 8 = 31) ∧
      (let f := askBytes { anAsk with sender := 5 }
       tooShort f = false ∧ crcWrong f = false ∧ frameByte f 0 / 16 = 2 ∧ frameByte f 1 / 8 = station.ownId) := by
  decide +kernel

/-- The station with a record of its narrow and a transmitter. -/
def stationWith (r : NarrowRecord) (t : Transmitter) : State :=
  { station with narrow.records := [r], air.transmitter := t }

/-- A record that asks, its ask outstanding. -/
def asking (granted : Bool) : NarrowRecord := { NarrowRecord.idle with relation := .asking, ask := .outstanding granted }

/-- A record that waits. -/
def waiting (phase : Phase) : NarrowRecord := { NarrowRecord.idle with relation := .waiting, phase := some phase }

/-- A record that holds. -/
def holding (inherited : Bool) : NarrowRecord :=
  { NarrowRecord.idle with relation := .holding, inherited := inherited }

/-- An answer to the asker 8 for narrow 0, queued W_ans ago. -/
def anAnswer (inHand : Bool) : AnswerEntry :=
  { askerId := 8, askerDirection := .down, askerWaitAge := 0, narrow := 0, queuedAt := 800, inHand := inHand }

theorem witness_WaitingClassesAreGranted :
    (let s := { station with air.beaconTimer := some { start := 800, period := 200 } }
     s.loading = false ∧ s.holds.lockout ≠ .config ∧ (200 : Nat) ≤ (s.time - (800 : Time)).toNat) ∧
      (station.air.transmitter = .idle ∧ ∀ c ∈ station.air.rotation, station.classWaits c = false) ∧
      (let s := stationWith (asking false) .idle
       s.air.transmitter = .idle ∧ s.air.rotation = [.object] ++ .ask :: [.beacon] ∧ s.RotationSound ∧
         s.classWaits .object = false ∧ s.classWaits .ask = true) ∧
      ((∀ x ∈ [anAnswer true], x.inHand = true) ∧ (anAnswer false).inHand = false) := by decide +kernel

theorem witness_TransmitOutcomesReachTheirUnits :
    stationLocked.mode = .lockout ∧
      (let s := stationWith (asking true) .idle
       s.mode ≠ .lockout ∧
         s.narrow.records.findIdx? (fun r => decide (r.ask = .outstanding true) &&
           (decide (r.relation = .asking) || (decide (r.relation = .waiting) && decide (r.phase = some .contesting)))) =
             some 0) := by decide +kernel

/-- The station in BACKOFF for a class, after seven busy attempts, its slots just run out. -/
def backing (c : FrameClass) : State := stationWith (asking true) (.backoff c 7 { start := 972, period := 28 })

/-- The station in SENSE for a class, BUSY asserted for 500 ms. -/
def sensing (c : FrameClass) : State := { stationWith (asking true) (.sense c 7 (some 500)) with air.busy := true }

theorem witness_BusyAttemptsAreCounted :
    (station.air.transmitter = .idle ∧ false = station.air.busy ∧ true ≠ station.air.busy) ∧
      ((backing .ask).air.transmitter = .backoff .ask 7 { start := 972, period := 28 } ∧ (backing .ask).air.busy = false ∧
        (backing .ask).air.reception = .closed) ∧
      ({ backing .ask with air.busy := true }.air.transmitter = .backoff .ask 7 { start := 972, period := 28 }) ∧
      ((sensing .beacon).air.transmitter = .sense .beacon 7 (some 500) ∧ (sensing .beacon).air.busy = true ∧
        500 ≤ ((sensing .beacon).time - (500 : Time)).toNat) ∧
      ((stationWith .idle (.sense .beacon 0 none)).air.transmitter = .sense .beacon 0 none ∧
        (stationWith .idle (.sense .beacon 0 none)).air.busy = false) := by decide +kernel

theorem witness_FramesAreBuiltAtTheMomentOfSending :
    ((backing .beacon).air.transmitter = .backoff .beacon 7 { start := 972, period := 28 } ∧
        28 ≤ ((backing .beacon).time - (972 : Time)).toNat ∧ (backing .beacon).air.busy = false ∧
        (backing .beacon).air.reception.isOpen = false) ∧
      (let s := backing .ask
       s.mode ≠ .lockout ∧ s.narrow.records.findIdx? (fun r => decide (r.ask = .outstanding true) &&
         (decide (r.relation = .asking) || (decide (r.relation = .waiting) && decide (r.phase = some .contesting)))) =
           some 0) ∧
      (let s := stationWith .idle (.backoff .ask 0 { start := 1000, period := 0 })
       (0 : Nat) ≤ (s.time - (1000 : Time)).toNat ∧ s.narrow.records.findIdx? (fun r => decide (r.ask = .outstanding true) &&
         (decide (r.relation = .asking) || (decide (r.relation = .waiting) && decide (r.phase = some .contesting)))) =
           none) ∧
      (let s := { backing .object with narrow.queue := [anAnswer true] }
       s.narrow.queue = [] ++ anAnswer true :: [] ∧ (anAnswer true).inHand = true ∧
         (anAnswer true).askerDirection ≠ s.road.direction ∧ (s.narrowRecord 0).relation = .asking ∧
         (s.narrowRecord 0).waitAge = (anAnswer true).askerWaitAge ∧ s.ownId < (anAnswer true).askerId) ∧
      (let s := { stationWith .idle (.backoff .object 0 { start := 1000, period := 0 }) with narrow.queue := [anAnswer true] }
       s.narrow.queue = [] ++ anAnswer true :: [] ∧ (s.narrowRecord 0).relation = .none) := by decide +kernel

/-- R21: the count byte goes before the six bytes of an ASK. -/
theorem test_count_byte_of_R21 : (transmitFrame (askBytes anAsk)).head? = some 6 ∧
    (transmitFrame (askBytes anAsk)).length = 7 := by decide +kernel

theorem witness_SentFramesAreHandedAndReported :
    (stationWith .idle (.send .ask [1] none)).air.transmitter = .send .ask [1] none ∧
      (let s := stationWith .idle (.send .ask [1] (some 950))
       s.air.transmitter = .send .ask [1] (some 950) ∧ s.air.reception = .closed ∧
         50 ≤ (s.time - (950 : Time)).toNat) := by decide +kernel

/-- A beacon of station 3, UP at 13,050 mm. -/
def aBeacon : Beacon :=
  { widestBeacon with
    first := false, sender := 3, direction := .up, quality := .good, sequence := 41, front := 13050, mode := .head
    narrow := 0, relation := .none, orderCode := .none, period := 20 }

/-- The station with these records and a completed BEACON. -/
def hearing (b : Beacon) (records : List PeerRecord) : State :=
  receiving (stationHearing station records) (beaconBytes b)

/-- The record of station 3 with a last sequence. -/
def heldRecord (sequence : Byte) : PeerRecord := { peer 3 13050 with lastSequence := sequence }

theorem witness_BeaconsWriteTheTable :
    (let s := hearing aBeacon [heldRecord 40]
     s.air.reception = .complete (frameOf (beaconBytes aBeacon)) ∧ s.loading = false ∧
       s.holds.lockout ≠ .config ∧ checkFrame s.ownId false (beaconBytes aBeacon) = .accepted (.beacon aBeacon) ∧
       s.TableSound ∧ (heldRecord 40).id = aBeacon.sender ∧ (aBeacon.sequence - (heldRecord 40).lastSequence).toNat = 1) ∧
      (let s := hearing aBeacon [heldRecord 169]
       s.TableSound ∧ aBeacon.first = false ∧ (aBeacon.sequence - (heldRecord 169).lastSequence).toNat = 128) ∧
      (let s := hearing aBeacon [peer 9 13050]
       s.TableSound ∧ (∀ r ∈ s.peers.records, r.id ≠ aBeacon.sender) ∧ s.peers.records.length < 16) := by decide +kernel

/-- A record of the table of section 3.10, heard 100 ms ago. -/
def roadRecord (id position : Nat) (direction : Direction) (rigLength : Nat) (part : Option NarrowPart) : PeerRecord :=
  { peer id position with direction := direction, rigLength := rigLength, narrowPart := part, stamp := 1900 }

/-- The table of section 3.10, peer 21 STALE. -/
def crowd : List PeerRecord :=
  [roadRecord 12 4200 .down 500 none, roadRecord 3 9800 .up 700 none,
   { roadRecord 21 14500 .down 600 none with stamp := 600 },
   roadRecord 9 18000 .down 800 (some { index := 1, relation := .waiting, waitAge := 0 }),
   roadRecord 14 22300 .up 600 none, roadRecord 2 26100 .down 500 none, roadRecord 17 27400 .up 900 none,
   roadRecord 8 28900 .up 600 none]
  ++ [roadRecord 30 31200 .up 600 none, roadRecord 11 32500 .up 800 none, roadRecord 26 34900 .up 600 none,
   roadRecord 6 38000 .down 700 none,
   roadRecord 19 41600 .down 800 (some { index := 3, relation := .holding, waitAge := 0 }),
   roadRecord 24 47000 .up 500 none, roadRecord 1 52800 .down 600 none, roadRecord 28 57300 .down 900 none]

/-- The station of section 3.10 with a table. -/
def crowded (records : List PeerRecord) : State := { stationHearing (stationAt 30000) records with time := 2000 }

/-- A newcomer of section 3.10. -/
def newcomer (id front : Nat) (direction : Direction) (relation : Relation) : Beacon :=
  { aBeacon with sender := id, front := front, direction := direction, narrow := 3, relation := relation, rigLength := 600 }

/-- Section 3.10: the table after arrivals A, B and C, and the newcomer dropped at B. -/
theorem test_full_table_of_section_3_10 :
    (let a := beaconArrival (newcomer 16 36200 .down .none) 2000 (crowded crowd)
     let b := beaconArrival (newcomer 23 60100 .down .none) 2000 a
     let c := beaconArrival (newcomer 27 37500 .up .waiting) 2000 b
     decide (a.counters.tableFull = 0 ∧ b.counters.tableFull = 1 ∧ c.counters.tableFull = 1 ∧
       b.peers.records = a.peers.records ∧
       c.peers.records.map (fun r => r.id) = [12, 3, 9, 14, 2, 17, 8, 30, 11, 26, 16, 27, 6, 19, 24, 1])) = true := by
  decide +kernel

/-- The full table meets a completed BEACON. -/
def weighing (b : Beacon) : State := receiving (crowded crowd) (beaconBytes b)

theorem witness_FullTableWeighsTheNewcomer :
    (let s := weighing (newcomer 16 36200 .down .none)
     s.loading = false ∧ s.holds.lockout ≠ .config ∧ s.TableSound ∧
       s.peers.records.length = 16 ∧ (∀ r ∈ s.peers.records, r.id ≠ 16) ∧
       checkFrame s.ownId false (beaconBytes (newcomer 16 36200 .down .none)) =
         .accepted (.beacon (newcomer 16 36200 .down .none)) ∧
       { roadRecord 21 14500 .down 600 none with stamp := 600 } ∈ s.peers.records ∧
       (∀ r ∈ s.peers.records, r.id ≠ 21 → s.relevance r < 4) ∧
       s.relevance { roadRecord 21 14500 .down 600 none with stamp := 600 } = 4) ∧
      (let s := crowded (crowd.filter (fun r => decide (r.id ≠ 21)) ++ [roadRecord 16 57300 .down 600 none])
       let victim := roadRecord 28 57300 .down 900 none
       victim ∈ s.peers.records ∧
         ∀ r ∈ s.peers.records, r ≠ victim → s.relevance r < s.relevance victim ∨
           (s.relevance r = s.relevance victim ∧ (s.weighDistance r < s.weighDistance victim ∨
             (s.weighDistance r = s.weighDistance victim ∧ r.id < victim.id)))) := by decide +kernel

/-- R55: of two records equally far off, the higher id is the victim. -/
theorem test_victim_of_R55 :
    ((crowded []).victim [roadRecord 16 57300 .down 600 none, roadRecord 28 57300 .down 900 none]).map (fun r => r.id) =
        some 28 ∧
      ((crowded []).victim [roadRecord 28 57300 .down 600 none, roadRecord 16 57300 .down 900 none]).map (fun r => r.id) =
        some 28 := by decide +kernel

theorem witness_SweepRemovesOldRecords : 100 ≤ (station.time - station.peers.sweepTimer).toNat := by decide

/-- A written record of station 8, DOWN, that shows a relation with narrow 0. -/
def opposite (front waitAge : Nat) (relation : Relation) : PeerRecord :=
  { peer 8 front with
    direction := .down, narrowPart := some { index := 0, relation := relation, waitAge := waitAge } }

/-- A written record of a convoy with an order. -/
def ordering (seq : Nat) (code : OrderCode) : PeerRecord :=
  { peer 6 13000 with orderPart := some { code := code, seq := seq, hop := 15 } }

/-- A member of convoy 9 with order seq 4. -/
def member (unsynchronised : Bool) : State :=
  { station with
    spacing.role := .follow, spacing.convoyId := 9, spacing.memberIndex := 2
    order := { OrderUnit.initial with seq := 4, unsynchronised := unsynchronised } }

theorem witness_WriteNoticesReachTheirReaders :
    (¬(station.spacing.lostId ≠ 0 ∧ (peer 3 0).id = station.spacing.lostId) ∧ (peer 3 0).orderPart = none ∧
        (peer 3 0).narrowPart = none) ∧
      (let s := { station with spacing.lostId := 3 }
       s.spacing.lostId ≠ 0 ∧ (peer 3 0).id = s.spacing.lostId) ∧
      (let s := member false
       let p := ordering 5 .stopAll
       p.narrowPart = none ∧ p.orderPart = some { code := .stopAll, seq := 5, hop := 15 } ∧
         p.direction = s.road.direction ∧ p.convoyId = s.spacing.convoyId ∧ p.memberIndex < s.spacing.memberIndex ∧
         s.mode ≠ .lockout ∧ s.order.unsynchronised = false ∧ ((5 : Int) - s.order.seq) % 16 = 1 ∧
         ((11 : Int) - s.order.seq) % 16 = 7 ∧ ((12 : Int) - s.order.seq) % 16 = 8 ∧
         (member true).order.unsynchronised = true) ∧
      (let e : NarrowEntry := { lo := 5000, hi := 6000, disabled := none }
       let p := opposite 6200 0 .holding
       (stationAt 4800).cfg.narrows[0]? = some e ∧ p.orderPart = none ∧ p.direction ≠ station.road.direction ∧
         (let s := { stationAt 4800 with narrow.records := [holding false], config := some { config with stationId := 9 } }
          (s.narrowRecord 0).relation = .holding ∧ s.mode ≠ .lockout ∧ p.id < s.ownId ∧
            ¬((e.lo : Int) - s.cfg.dStop < (s.front : Nat)) ∧ (s.narrowRecord 0).inherited = false) ∧
         (let s := { stationAt 4801 with narrow.records := [holding false] }
          (e.lo : Int) - s.cfg.dStop < (s.front : Nat) ∧ ((6199 : Nat) : Int) < e.hi + s.cfg.dStop ∧
            (s.narrowRecord 0).conflictSeen = false)) := by decide +kernel

/-- A record of a narrow with each relation, at a station with room on its stack, and one with none. -/
theorem witness_RelationChangesHaveTheirCompanions :
    (let s := stationWith (holding false) .idle
     s.narrow.records[0]? = some (holding false) ∧ s.mode ≠ .start ∧ s.mode ≠ .lockout ∧ s.holds.stack.length < 4 ∧
       (holding false).relation ≠ .none ∧ (waiting .deferred).relation = .waiting) ∧
      (let s := { stationHeld [.handsetStop, .linkLoss, .convoyStop, .obstruction] with narrow.records := [asking false] }
       s.narrow.records[0]? = some (asking false) ∧ s.mode ≠ .start ∧ s.mode ≠ .lockout ∧
         s.holds.has .narrowWait = false ∧ 4 ≤ s.holds.stack.length) := by decide +kernel

theorem witness_NarrowStepDropsAndTakesEntries :
    (stationLocked.loading = false ∧ stationLocked.holds.lockout ≠ .config ∧
        stationLocked.narrow.stepTimer = some 980 ∧ 20 ≤ (stationLocked.time - (980 : Time)).toNat ∧
        stationLocked.mode = .lockout) ∧
      (let s := { station with narrow.records := [holding false] }
       s.mode ≠ .lockout ∧ s.RelationsSound ∧
         ∀ e ∈ s.cfg.narrows, e.disabled = none →
           isAhead s.cfg e s.road.direction s.front = false ∧ isInside e s.road.direction s.front s.rear = false ∧
           hasLeft e s.road.direction s.rear = true) ∧
      (let s := { stationAt 5500 with narrow.records := [waiting .deferred], holds := (stationHeld [.narrowWait]).holds }
       s.loading = false ∧ s.mode ≠ .lockout ∧ s.narrow.stepTimer = some 980 ∧ s.road.turnNarrow = false ∧
         s.RouteSound ∧ s.RelationsSound ∧ s.cfg.narrows[0]? = some { lo := 5000, hi := 6000, disabled := none } ∧
         isInside { lo := 5000, hi := 6000, disabled := none } s.road.direction s.front s.rear = true ∧
         (s.narrowRecord 0).relation ≠ .holding ∧ s.holds.unreleased .narrowWait = true ∧
         (s.narrowRecord 0).relation = .waiting) ∧
      (let s := { stationAt 5500 with narrow.records := [holding false], road.turnNarrow := true }
       s.RouteSound ∧ s.RelationsSound ∧ s.PairingSound ∧
         isInside { lo := 5000, hi := 6000, disabled := none } s.road.direction s.front s.rear = true) := by
  refine ⟨?_, ?_, ?_, ?_⟩ <;> decide +kernel

/-- A HOLDING relation is kept where the narrow is no longer ahead, up to D_claim + 500 before it (R137). -/
theorem witness_NarrowStepKeepsAHolding :
    let s := { stationAt 3000 with narrow.records := [holding false] }
    s.mode ≠ .lockout ∧ s.road.turnNarrow = false ∧ s.RouteSound ∧ s.RelationsSound ∧
      (s.narrowRecord 0).relation = .holding ∧ s.narrowAhead = none ∧
      (let e : NarrowEntry := { lo := 5000, hi := 6000, disabled := none }
       s.cfg.narrows[0]? = some e ∧ hasLeft e s.road.direction s.rear = false ∧
         isFarBack s.cfg e s.road.direction s.front = false ∧ isFarBack s.cfg e s.road.direction 2999 = true ∧
         isInside e s.road.direction s.front s.rear = false) := by decide +kernel

/-- The station past narrow 0 with narrow 1 ahead, WAITING for narrow 0 still. -/
def between (r : NarrowRecord) (records : List PeerRecord) : State :=
  stationHearing
    { stationAt 12000 with
      config := some { config with
        narrows := [{ lo := 5000, hi := 6000, disabled := none }, { lo := 12500, hi := 13000, disabled := none }] }
      narrow.records := [r, .idle] }
    records

theorem witness_NarrowStepDropsWithANarrowAhead :
    (let s := { between (waiting .deferred) [] with holds := (stationHeld [.narrowWait]).holds }
     s.loading = false ∧ s.mode ≠ .lockout ∧ s.RelationsSound ∧ s.PairingSound ∧ s.StackSound ∧ s.narrowAhead = some 1 ∧
       hasLeft { lo := 5000, hi := 6000, disabled := none } s.road.direction s.rear = true ∧
       s.narrow.records[1]? = some .idle ∧ s.holds.has .narrowWait = true) ∧
      (let p := { opposite 14000 0 .waiting with narrowPart := some { index := 1, relation := .waiting, waitAge := 0 } }
       let s := between (holding false) [p]
       s.RelationsSound ∧ s.PairingSound ∧ s.StackSound ∧ s.narrowAhead = some 1 ∧ (s.time - p.stamp).toNat ≤ 600 ∧
         s.holds.stack.length < 4) := by
  refine ⟨?_, ?_⟩ <;> decide +kernel

/-- What the claims of R139 to R141 rest on, but for the peers and the stack. -/
def mayClaim (s : State) : Bool :=
  decide (s.loading = false ∧ s.mode ≠ .lockout ∧ s.narrow.stepTimer = some 980 ∧
    20 ≤ (s.time - (980 : Time)).toNat ∧ s.RelationsSound ∧ (∀ x ∈ s.narrow.records, x.relation = .none) ∧
    s.narrow.records[0]? = some .idle ∧ s.narrowAhead = some 0 ∧
    ∀ e ∈ s.cfg.narrows, e.disabled = none → isInside e s.road.direction s.front s.rear = false)

theorem witness_ClaimsStartAhead :
    (mayClaim (stationAt 3500) = true ∧ (stationAt 3500).mode ≠ .parked ∧ (stationAt 3500).road.quality ≠ .unknown ∧
        (stationAt 3500).peers.records = []) ∧
      mayClaim { stationAt 5000 with road.quality := .unknown } = true ∧
      (let s := stationHearing (stationAt 4000) [opposite 8000 0 .waiting]
       mayClaim s = true ∧ (s.time - (opposite 8000 0 .waiting).stamp).toNat ≤ 600 ∧ s.holds.stack.length < 4) ∧
      (let s := stationHearing
         { stationAt 4000 with holds := (stationHeld [.handsetStop, .linkLoss, .convoyStop, .obstruction]).holds }
         [opposite 8000 0 .holding]
       mayClaim s = true ∧ s.holds.has .narrowWait = false ∧ 4 ≤ s.holds.stack.length) ∧
      (let x := { peer 3 4700 with narrowPart := some { index := 0, relation := .holding, waitAge := 0 } }
       let s := stationHearing
         { stationAt 4000 with
           spacing := { station.spacing with
             role := .follow, convoyId := 9, memberIndex := 1, predecessor := some { id := 3, gap := 100 } } } [x]
       mayClaim s = true ∧ s.spacing.role = .follow ∧ s.peers.records.find? (fun y => decide (y.id = 3)) = some x ∧
         x.direction = s.road.direction ∧ x.convoyId = s.spacing.convoyId) := by decide +kernel

/-- The station 500 mm before narrow 0 with a record of it, and what the kept relation of R137 rests on. -/
def keeps (s : State) : Bool :=
  let e : NarrowEntry := { lo := 5000, hi := 6000, disabled := none }
  decide (s.loading = false ∧ s.mode ≠ .lockout ∧ s.narrow.stepTimer = some 980 ∧ s.road.turnNarrow = false ∧
    s.RouteSound ∧ s.RelationsSound ∧ s.cfg.narrows[0]? = some e ∧ hasLeft e s.road.direction s.rear = false ∧
    isFarBack s.cfg e s.road.direction s.front = false ∧ isInside e s.road.direction s.front s.rear = false)

theorem witness_ClaimsStartAhead_phases :
    (let s := stationHearing { stationAt 4500 with narrow.records := [asking false] } [opposite 8000 0 .holding]
     keeps s = true ∧ (s.narrowRecord 0).relation = .asking ∧
       after .narrowStep s (fun t => decide ((t.narrowRecord 0).relation = .waiting)) = true) ∧
      (let s := { stationAt 4500 with
         narrow.records := [waiting .deferred], holds := (stationHeld [.narrowWait]).holds }
       keeps s = true ∧
         after .narrowStep s (fun t => decide ((t.narrowRecord 0).phase = some .contesting)) = true) ∧
      (let s := stationHearing
         { stationAt 4500 with narrow.records := [waiting .contesting], holds := (stationHeld [.narrowWait]).holds }
         [opposite 8000 1 .waiting]
       keeps s = true ∧
         after .narrowStep s (fun t => decide ((t.narrowRecord 0).phase = some .deferred)) = true) ∧
      (let x := { peer 3 4700 with narrowPart := some { index := 0, relation := .holding, waitAge := 0 } }
       let s := stationHearing
         { stationAt 4500 with
           narrow.records := [asking false]
           spacing := { station.spacing with
             role := .follow, convoyId := 9, memberIndex := 1, predecessor := some { id := 3, gap := 100 } } } [x]
       keeps s = true ∧ s.narrowAhead = some 0 ∧
         after .narrowStep s (fun t => decide ((t.narrowRecord 0).relation = .holding ∧
           (t.narrowRecord 0).inherited = true)) = true) := by
  refine ⟨?_, ?_, ?_, ?_⟩ <;> decide +kernel

theorem witness_NarrowTimersRunOut :
    (let s := { station with narrow.records :=
       [.idle, { NarrowRecord.idle with relation := .asking, ask := .scheduled { start := 940, period := 60 } }] }
     s.narrow.records = [NarrowRecord.idle] ++
         { NarrowRecord.idle with relation := .asking, ask := .scheduled { start := 940, period := 60 } } :: [] ∧
       60 ≤ (s.time - (940 : Time)).toNat ∧ ∀ x ∈ [NarrowRecord.idle], x.ask = .none) ∧
      (let r := { waiting .contesting with windowEnd := some { start := 800, period := 200 } }
       let s := { station with narrow.records := [r] }
       s.narrow.records = [] ++ r :: [] ∧ 200 ≤ (s.time - (800 : Time)).toNat ∧ s.mode ≠ .lockout) ∧
      stationLocked.mode = .lockout ∧
      (let s := { station with narrow.queue := [anAnswer true, anAnswer false] }
       s.narrow.queue = [anAnswer true] ++ anAnswer false :: [] ∧ (anAnswer true).inHand = true ∧
         s.cfg.wAns ≤ (s.time - (anAnswer false).queuedAt).toNat) ∧
      (let s := { station with narrow.waitAgeTimer := some 900 }
       s.narrow.waitAgeTimer = some 900 ∧ 100 ≤ (s.time - (900 : Time)).toNat) := by decide +kernel

/-- A station with a record of its narrow and a completed ASK. -/
def asked (r : NarrowRecord) (queue : List AnswerEntry) : State :=
  receiving { stationWith r .idle with narrow.queue := queue } (askBytes anAsk)

/-- A transmitter in SENSE with BUSY clear is in BACKOFF when the ASK that closes acts (log entry 30). -/
theorem test_sense_ends_before_the_frame_acts :
    after .receivedFrame { asked (holding true) [] with air.transmitter := .sense .beacon 2 none }
      (fun t => decide (t.narrow.queue.length = 1 ∧ t.air.transmitter =
        .backoff .beacon 2 { start := 1000, period := (jitterStep station.air.jitter).toNat % 8 * 4 })) = true := by
  decide +kernel

/-- Entries of four other askers. -/
def fourAnswers : List AnswerEntry := [11, 12, 13, 14].map fun id => { anAnswer false with askerId := id }

theorem witness_AsksAreAnsweredOrYieldedTo :
    (let s := asked (holding true) []
     s.air.reception = .complete (frameOf (askBytes anAsk)) ∧ s.loading = false ∧
       s.holds.lockout ≠ .config ∧ checkFrame s.ownId false (askBytes anAsk) = .accepted (.ask anAsk) ∧
       anAsk.direction ≠ s.road.direction ∧
       s.cfg.narrows[anAsk.narrow]? = some { lo := 5000, hi := 6000, disabled := none } ∧
       (s.narrowRecord 0).relation = .holding ∧ s.narrow.queue.length < 4) ∧
      ((asked .idle []).narrowRecord 0).relation = .none ∧
      (∃ x ∈ (asked (holding true) [anAnswer true]).narrow.queue, x.askerId = anAsk.sender ∧ x.narrow = anAsk.narrow) ∧
      (let s := asked { waiting .deferred with waitAge := 3 } fourAnswers
       (s.narrowRecord 0).waitAge = anAsk.waitAge ∧ s.ownId < anAsk.sender ∧ 4 ≤ s.narrow.queue.length ∧
         ∀ x ∈ s.narrow.queue, ¬(x.askerId = anAsk.sender ∧ x.narrow = anAsk.narrow)) ∧
      (let s := asked (asking false) []
       (s.narrowRecord 0).relation = .asking ∧ (s.narrowRecord 0).waitAge < anAsk.waitAge ∧ s.mode ≠ .lockout) ∧
      (let s := asked (waiting .contesting) []
       (s.narrowRecord 0).relation = .waiting ∧ (s.narrowRecord 0).waitAge < anAsk.waitAge ∧ s.mode ≠ .lockout) ∧
      { asked (asking false) [] with holds := stationLocked.holds }.mode = .lockout := by decide +kernel

/-- A station at a place with a record of its narrow and a completed OBJECT. -/
def objected (front : Nat) (r : NarrowRecord) (o : ObjectFrame) : State :=
  receiving { stationAt front with narrow.records := [r] } (objectBytes o)

/-- An OBJECT of an asker. -/
def lightObject : ObjectFrame := { anObject with relation := .asking, waitAge := 0 }

theorem witness_ObjectionsAreHeeded :
    (let s := objected 4800 (holding false) anObject
     s.loading = false ∧ s.holds.lockout ≠ .config ∧
       checkFrame s.ownId false (objectBytes anObject) = .accepted (.object anObject) ∧
       s.cfg.narrows[anObject.narrow]? = some { lo := 5000, hi := 6000, disabled := none } ∧
       anObject.direction ≠ s.road.direction ∧ anObject.target = s.ownId ∧ s.mode ≠ .lockout ∧
       (s.narrowRecord 0).relation = .holding ∧ (s.narrowRecord 0).inherited = false ∧
       anObject.relation = .holding ∧ ¬((5000 : Int) - s.cfg.dStop < (s.front : Nat))) ∧
      ((5000 : Int) - config.dStop < ((objected 4801 (holding false) anObject).front : Nat)) ∧
      ((objected 4800 (holding true) anObject).narrowRecord 0).inherited = true ∧
      (let s := objected 4800 (holding false) lightObject
       checkFrame s.ownId false (objectBytes lightObject) = .accepted (.object lightObject) ∧
         lightObject.relation ≠ .holding ∧ ¬((s.narrowRecord 0).waitAge < lightObject.waitAge) ∧
         ¬(lightObject.sender < s.ownId)) ∧
      ((objected 4800 (asking false) anObject).narrowRecord 0).relation = .asking ∧
      ((objected 4800 (waiting .contesting) anObject).narrowRecord 0).relation = .waiting ∧
      ((objected 4800 .idle anObject).narrowRecord 0).relation = .none ∧
      checkFrame 5 false (objectBytes { anObject with target := 6 }) = .accepted (.object { anObject with target := 6 }) := by
  decide +kernel

/-! ### Spacing Unit -/

/-- The reading of section 4.10, taken at 5,000 ms. -/
def closeRigs : List PeerRecord :=
  [{ peer 13 19700 with stamp := 4500, lead := 0, speed := 0, rigLength := 700, mode := .parked, convoyId := 13 },
   { peer 8 20500 with stamp := 4920, lead := 15, speed := 350, rigLength := 500, direction := .down, convoyId := 8 },
   { peer 2 20600 with stamp := 4900, lead := 10, speed := 300, quality := .unknown, convoyId := 2 },
   { peer 11 20900 with stamp := 4850, lead := 10, speed := 300, rigLength := 500, mode := .follow, memberIndex := 3 },
   { peer 4 21100 with
     stamp := 4600, lead := 0, speed := 200, braking := true, rigLength := 652, quality := .drift, mode := .follow
     memberIndex := 2 },
   { peer 17 22400 with stamp := 3200, lead := 30, speed := 400, rigLength := 500, mode := .follow, memberIndex := 1 }]

/-- Station 5 of section 4.10. -/
def amongRigs : State :=
  { stationHearing (stationAt 20000) closeRigs with
    time := 5000, config := some { config with lRoad := 40000 }, spacing.stepTimer := some 4980 }

/-- Section 4.10: peer 4 is the predecessor, and the station joins convoy 9 at index 3. -/
theorem test_selection_of_section_4_10 :
    after .spacingStep amongRigs (fun t => decide (t.spacing.predecessor = some { id := 4, gap := 448 } ∧
      t.spacing.role = .follow ∧ t.spacing.convoyId = 9 ∧ t.spacing.memberIndex = 3 ∧ t.holds.stack = [])) = true := by
  decide +kernel

/-- Section 4.10: the gaps of peers 11 and 17. -/
theorem test_gaps_of_section_4_10 :
    ((closeRigs.filter amongRigs.candidate).map fun r => (r.id, amongRigs.gapTo r)) = [(11, 448), (4, 448), (17, 2300)] := by
  decide +kernel

theorem witness_PredecessorIsTheNearestCandidate :
    amongRigs.loading = false ∧ amongRigs.holds.lockout ≠ .config ∧ amongRigs.spacing.stepTimer = some 4980 ∧
      20 ≤ (amongRigs.time - (4980 : Time)).toNat ∧ (amongRigs.peers.records.map (fun r => r.id)).Nodup ∧
      (closeRigs.filter amongRigs.candidate).map (fun r => r.id) = [11, 4, 17] ∧
      station.peers.records = [] := by decide +kernel

/-- A station whose Spacing step is due just now. -/
def stepsNow (s : State) : Bool :=
  decide (s.loading = false ∧ s.holds.lockout ≠ .config ∧ s.spacing.stepTimer = some 980 ∧
    20 ≤ (s.time - (980 : Time)).toNat)

theorem witness_TurnsAndFreezesSetMembership :
    stepsNow { station with road.turnSpacing := true } = true ∧
      (stepsNow (stationHeld [.obstruction]) = true ∧ (stationHeld [.obstruction]).mode = .halt ∧
        station.road.turnSpacing = false) ∧
      (stepsNow stationLocked = true ∧ stationLocked.mode = .lockout) := by decide +kernel

/-- The station behind a peer that has gone STALE: its age is 601 ms, 1 ms past three of its periods. -/
def behindStale (s : State) : State := stationHearing s [{ peer 3 13050 with stamp := 399 }]

theorem witness_StalePredecessorsHaltTheRig :
    (let s := behindStale station
     stepsNow s = true ∧ s.selected = some { peer 3 13050 with stamp := 399 } ∧
       3 * 200 < (s.time - (399 : Time)).toNat ∧ s.spacing.role ≠ .parked ∧ s.mode ≠ .lockout ∧ 3 ≠ s.spacing.lostId ∧
       s.holds.stack.length < 4) ∧
      (let s := behindStale (stationHeld [.handsetStop, .obstruction, .convoyStop, .narrowWait])
       s.selected = some { peer 3 13050 with stamp := 399 } ∧ s.mode ≠ .lockout ∧ s.holds.has .linkLoss = false ∧
         4 ≤ s.holds.stack.length) ∧
      (let s := behindStale { station with spacing.lostId := 3 }
       stepsNow s = true ∧ s.spacing.lostId = 3) := by decide +kernel

/-- No turn is pending, and the predecessor, if any, is FRESH. -/
def freshAhead (s : State) : Bool :=
  stepsNow s && decide (s.road.turnSpacing = false) &&
    (match s.selected with
     | none => true
     | some r => decide ((s.time - r.stamp).toNat ≤ 3 * r.period))

/-- The station in a role, behind a fresh peer at a gap that follows from the place. -/
def inRole (role : Role) (records : List PeerRecord) : State :=
  stationHearing
    { station with spacing := { station.spacing with
      role := role, convoyId := if role = .follow then 9 else 5, memberIndex := if role = .follow then 1 else 0 } }
    records

theorem witness_MembershipFollowsThePredecessor :
    (let s := { inRole .head [] with spacing.parkTimer := some 500, config := some { config with tPark := 500 } }
     freshAhead s = true ∧ s.mode = .head ∧ s.spacing.vRef = 0 ∧ s.drive.vMeas = 0 ∧
       s.cfg.tPark ≤ (s.time - (500 : Time)).toNat) ∧
      (let s := inRole .head [peer 3 13050]
       freshAhead s = true ∧ s.mode = .head ∧ s.spacing.parkTimer = none ∧
         s.selected.map (fun r => (r.id, s.gapTo r, s.joinable r)) = some (3, 480, true) ∧ (480 : Int) ≤ s.cfg.gJoin) ∧
      (let s := inRole .head [{ peer 3 13050 with memberIndex := 15 }]
       freshAhead s = true ∧ s.selected.map (fun r => (r.id, s.joinable r)) = some (3, false)) ∧
      (let s := inRole .follow []
       freshAhead s = true ∧ s.mode = .follow ∧ s.selected = none) ∧
      (let s := { inRole .follow [peer 3 13770] with spacing.splitTimer := some 500 }
       freshAhead s = true ∧ s.selected.map (fun r => (s.gapTo r, s.joinable r)) = some (1200, true) ∧
         (1200 : Int) ≤ s.cfg.gSplit) ∧
      (let s := { inRole .follow [peer 3 13771] with spacing.splitTimer := some 500 }
       freshAhead s = true ∧ s.selected.map (fun r => (s.gapTo r, s.joinable r)) = some (1201, true) ∧
         s.cfg.tSplit ≤ (s.time - (500 : Time)).toNat ∧ (s.time - (501 : Time)).toNat < s.cfg.tSplit) ∧
      (let s := inRole .parked [peer 3 13050]
       freshAhead s = true ∧ s.mode = .parked ∧
         s.selected.map (fun r => (s.joinable r, decide (r.mode ≠ .halt), decide (s.gapTo r ≤ s.cfg.gJoin))) =
           some (true, true, true)) ∧
      (let s := { inRole .parked [] with
         spacing.wakeTimer := some 500, handset.band := .drive, handset.throttle := 60 }
       freshAhead s = true ∧ s.mode = .parked ∧ s.selected = none ∧ s.cfg.vMax / 10 ≤ s.handset.throttle ∧
         500 ≤ (s.time - (500 : Time)).toNat ∧ s.spacing.autoEntry = false) ∧
      freshAhead { inRole .parked [] with spacing.autoEntry := true } = true := by
  refine ⟨?_, ?_, ?_, ?_, ?_, ?_, ?_, ?_, ?_⟩ <;> decide +kernel

/-- A FOLLOW behind a STALE predecessor whose loss is noted stays with it (R82), its park timer started at rest (R76). -/
theorem witness_MembershipFollowsThePredecessor_stale :
    let r := { peer 3 13050 with stamp := 399 }
    let s := { inRole .follow [r] with spacing := { (inRole .follow []).spacing with lostId := 3 } }
    stepsNow s = true ∧ s.road.turnSpacing = false ∧ s.selected = some r ∧ 3 * r.period < (s.time - r.stamp).toNat ∧
      r.id = s.spacing.lostId ∧ s.mode = .follow ∧ s.joinable r = true ∧ s.gapTo r ≤ s.cfg.gSplit ∧
      after .spacingStep s (fun t => decide (t.spacing.role = .follow ∧ t.spacing.memberIndex = 1 ∧
        t.spacing.parkTimer = some 1000 ∧ t.holds.stack = [])) = true := by decide +kernel

theorem witness_OrdersAreCopiedAndResumed :
    stationLocked.mode = .lockout ∧
      (let s := stationHearing station [ordering 5 .stopAll]
       s.mode ≠ .lockout ∧ s.peers.records.find? (fun x => decide (x.id = 6)) = some (ordering 5 .stopAll) ∧
         (ordering 5 .stopAll).orderPart = some { code := .stopAll, seq := 5, hop := 15 } ∧
         ∀ r ∈ s.peers.records, r.id ≠ 7) ∧
      (let s := stationHearing station [peer 3 13050]
       s.peers.records.find? (fun x => decide (x.id = 3)) = some (peer 3 13050) ∧ (peer 3 13050).orderPart = none) := by
  decide +kernel

/-- Station 5 of section 5.13 before a step: own quality DRIFT behind a POOR predecessor, its front 600 mm and the gap behind
the rear at 12,600 mm less the gap. -/
def doubtful (gap vMeas vPeer vRef : Nat) (closeIn : Bool) : State :=
  stationHearing
    { station with
      config := some { config with aDn := 1000 }
      road := { station.road with quality := .drift }
      drive := { station.drive with vMeas := vMeas }
      spacing := { station.spacing with role := .follow, convoyId := 9, memberIndex := 1, vRef := vRef, closeIn := closeIn } }
    [{ peer 3 (12600 + gap) with quality := .poor, speed := vPeer, braking := true }]

/-- V_ref, the flags and the count after the stages of a step. -/
def reference (s : State) : Nat × Bool × Bool × Nat :=
  let t := spacingStages s
  (t.spacing.vRef, t.spacing.closeIn, t.spacing.braking, t.counters.closeIn)

/-- Section 5.13: V_ref, the close-in flag and BRAKING at the five steps, and the one count. -/
theorem test_close_in_of_section_5_13 :
    reference (doubtful 610 300 200 300 false) = (280, false, true, 0) ∧
      reference (doubtful 210 280 0 280 false) = (0, true, true, 1) ∧
      reference (doubtful 300 120 0 0 true) = (0, true, true, 0) ∧
      reference (doubtful 455 0 150 0 true) = (8, false, false, 0) ∧
      reference (doubtful 452 0 150 8 false) = (16, false, false, 0) := by decide +kernel

/-- Station 12 of section 5.14 at a place before narrow 0, WAITING for it. -/
def approaching (front vRef : Nat) : State :=
  { station with
    config := some { config with
      lRoad := 40000, aDn := 1000, dClaim := 2000, narrows := [{ lo := 30000, hi := 31500, disabled := none }] }
    road := { station.road with posUm := front * 1000 }
    spacing := { station.spacing with vRef := vRef }
    narrow.records := [waiting .deferred], holds := (stationHeld [.narrowWait]).holds }

/-- Section 5.14: V_ref on the way to the stop line. -/
theorem test_stop_line_of_section_5_14 :
    [(27900, 450), (28000, 450), (28900, 450), (29100, 450), (29500, 158), (29700, 51), (29799, 1)].map
        (fun p => (reference (approaching p.1 p.2)).1) = [450, 450, 450, 430, 150, 50, 0] := by decide +kernel

theorem witness_SpeedReferenceObeysTheLaw :
    stepsNow (doubtful 210 280 0 280 false) = true ∧ stepsNow stationLocked = true ∧
      stepsNow (stationHeld [.obstruction]) = true := by decide +kernel

/-! ### Drive Unit, handset, holds -/

theorem witness_DriveStepRunsTheSpeedLoop :
    (station.loading = false ∧ station.holds.lockout ≠ .config ∧ station.drive.stepTimer = some 980 ∧
        20 ≤ (station.time - (980 : Time)).toNat) ∧
      { station with drive.updatePending := true }.drive.updatePending = true ∧ station.drive.updatePending = false := by
  decide

/-- Section 6.13, step D: over the crest, with grade bias −150. -/
theorem test_crest_of_section_6_13 :
    after .driveStep
      { station with
        config := some { config with
          eS := 800, gradeBiasOn := true, segments := List.replicate 24 { gradeBias := -150, capCode := 0 } }
        spacing.vRef := 600
        drive := { station.drive with edgeCount := 16, integral := 60000, applied := { state := .drive, duty := 937 } } }
      (fun t => decide (t.drive.integral = 59980 ∧ t.drive.buffer = { state := .drive, duty := 762 })) = true := by
  decide +kernel

theorem witness_ThrottlePulsesSetTheThrottle :
    State.reset.mode = .start ∧ station.mode ≠ .start ∧ stationUnconfigured.mode ≠ .start := by decide

/-- R156: 1,500 µs with V_max 600 gives 300 mm/s. -/
theorem test_throttle_of_R156 :
    after (.throttlePulse 1500) station (fun t => decide (t.handset.throttle = 300)) = true ∧
      after (.throttlePulse 1950) station (fun t => decide (t.handset.throttle = 600)) = true := by decide +kernel

/-- The station in STOP since a time. -/
def inStop (since : Time) : State :=
  { stationHeld [.handsetStop] with handset := { Handset.powerOn with band := .stop, stopTimer := some since } }

theorem witness_ModePulsesChangeTheBand :
    State.reset.mode = .start ∧ (inStop 700).mode ≠ .start ∧ (inStop 700).handset.band = .stop ∧
      300 ≤ ((inStop 700).time - (700 : Time)).toNat ∧ ((inStop 701).time - (701 : Time)).toNat < 300 ∧
      station.handset.band ≠ .stop := by decide

/-- R160: a STOP of 300 ms is a resume gesture, one of 299 ms is none. -/
theorem test_resume_of_R160 :
    after (.modePulse 1000) (inStop 700) (fun t => decide (t.holds.stack = [] ∧ t.handset.band = .auto)) = true ∧
      after (.modePulse 1000) (inStop 701) (fun t => decide (t.mode = .halt ∧ t.handset.band = .auto)) = true := by
  decide +kernel

/-- A HEAD under hand control whose channels were last heard 250 ms ago. -/
def unheard (band : Band) : State :=
  { station with
    handset := { Handset.powerOn with
      band := band, throttleChannel := { present := true, lastPulse := 750 }
      modeChannel := { present := true, lastPulse := 750 } } }

theorem witness_HandsetLossAndLongStopAct :
    ((unheard .drive).handset.throttleChannel.present = true ∧
        250 ≤ ((unheard .drive).time - (unheard .drive).handset.throttleChannel.lastPulse).toNat ∧
        (unheard .drive).handset.modeChannel.present = true ∧
        250 ≤ ((unheard .drive).time - (unheard .drive).handset.modeChannel.lastPulse).toNat ∧
        (unheard .drive).handset.band ≠ .absent ∧ (unheard .absent).handset.band = .absent) ∧
      ((inStop 0).handset.stopTimer = some 0 ∧ 1000 ≤ ((inStop 0).time - (0 : Time)).toNat ∧
        (inStop 0).handset.stopHeld = false ∧ (inStop 0).spacing.role = .head ∧ (inStop 0).mode ≠ .lockout) := by decide

theorem witness_HoldsArePushedAndReleased :
    (State.reset.mode = .start ∧ stationLocked.mode = .lockout) ∧ station.holds.unreleased .obstruction = false ∧
      (station.mode ≠ .start ∧ station.mode ≠ .lockout ∧ station.holds.has .linkLoss = false ∧
        station.holds.stack.length < 4) ∧
      (fullStack.mode ≠ .start ∧ fullStack.mode ≠ .lockout ∧ fullStack.holds.has .convoyStop = true ∧
        fullStack.holds.has .obstruction = false ∧ 4 ≤ fullStack.holds.stack.length ∧
        fullStack.holds.unreleased .handsetStop = true) := by decide

/-- A PARKED station with a beacon due in some ms. -/
def parkedDueIn (period : Nat) : State :=
  { station with spacing.role := .parked, air.beaconTimer := some { start := 1000, period := period } }

/-- R34: leaving PARKED with the beacon more than P_b + P_b / 4 = 250 ms ahead sets its due time afresh. -/
theorem test_beacon_on_leaving_parked :
    (parkedDueIn 251).mode = .parked ∧ (pushHold .handsetStop none (parkedDueIn 251)).mode = .halt ∧
      (pushHold .handsetStop none (parkedDueIn 251)).air.jitter = jitterStep State.reset.air.jitter ∧
      (pushHold .handsetStop none (parkedDueIn 250)).air = (parkedDueIn 250).air := by decide +kernel

/-- Section 7.9, at 5,400: NARROW_WAIT over a released HANDSET_STOP placed in PARKED; its release parks the station. -/
theorem test_park_return_of_section_7_9 :
    (let s := { stationHeld [.narrowWait, .handsetStop] with
       holds.stack := (stationHeld [.narrowWait, .handsetStop]).holds.stack.map fun r =>
         if r.cause = .handsetStop then { r with released := true, modeBefore := .parked } else r }
     let t := releaseHold .narrowWait s
     decide (s.mode = .wait ∧ s.spacing.role = .head ∧ t.holds.stack = [] ∧ t.spacing.role = .parked ∧
       t.mode = .parked)) = true := by decide +kernel

/-! ### Lamps and Service Line -/

theorem witness_LampLinesShowTheState :
    calm.LampsSound ∧ after (.obstEdge .high) calm (fun t => decide (t.LampsSound ∧ t.lamps.brake = .on)) = true := by
  decide +kernel

theorem witness_ServiceRequestsAreTaken :
    (station.service.response = none ∧ station.service.pendingRequest = none) ∧
      ((answering .config).service.response ≠ none ∧ (answering .config).service.pendingRequest = none) ∧
      { answering .config with service.pendingRequest := some .status }.service.pendingRequest ≠ none := by decide

/-- Section 11.5: the load line of a failed load, and no further lines. -/
theorem test_config_report_of_section_11_5 :
    { State.reset with loader := { phase := .idle, reason := .sum, clamped := [] } }.responseLines .config =
      [.fields [yesNoField "LOADED" false, wordField "REASON" "SUM"], .finish] := by decide

/-- R188: OUT=DRIVE:538. -/
theorem test_out_field_of_R188 : (outField { state := .drive, duty := 538 }).text = "OUT=DRIVE:538" := by decide +kernel

theorem witness_ServiceWordsAreCollected :
    station.service.word = [] ∧
      { station with service.word := [67, 76, 69, 65, 82] }.service.word = [67, 76, 69, 65, 82] ∧
      (answering .config).service.response = some { request := .config, lines := [.ok, .finish] } ∧
      (answering .config).service.pendingRequest = none ∧
      { answering .config with service.pendingRequest := some .status }.service.pendingRequest = some .status ∧
      station.service.response = none := by decide

/-- An unknown word, and one that was too long, are answered ERR (R186). -/
theorem witness_ServiceWordsAreCollected_unknown :
    (let s := { station with service.word := [65] }
     s.service.word ≠ [] ∧ after (.receivedCharacter 13) s (fun t => decide (
       t.service.response = some { request := .unknown, lines := [.err] })) = true) ∧
      (let s := { station with service := { station.service with word := List.replicate 16 65 } }
       after (.receivedCharacter 65) s (fun t => decide (t.service.overlong = true ∧ t.service.word.length = 16)) = true) ∧
      (let s := { station with service := { station.service with word := [67, 76, 69, 65, 82], overlong := true } }
       after (.receivedCharacter 13) s (fun t => decide (
         t.service.response = some { request := .unknown, lines := [.err] } ∧ t.service.word = [])) = true) := by
  refine ⟨?_, ?_, ?_⟩ <;> decide +kernel

/-! ### Invariants -/

/-- A station of which every predicate of Safety holds, with a relation, a hold, an answer and peers. -/
def busyStation : State :=
  settleLamps
    { stationHearing (stationHeld [.narrowWait]) [peer 9 13050, peer 3 14000] with
      narrow.records := [waiting .deferred], narrow.queue := [anAnswer false], pending := [.encoderEdge] }

theorem witness_StepsKeepTheRanges :
    busyStation.RangesSound ∧ busyStation.SpeedSound ∧ busyStation.ThrottleSound ∧ busyStation.RecordsSound ∧
      { busyStation with narrow.records := [asking false] }.AsksSound ∧ busyStation.peers.records ≠ [] ∧
      stepsOn busyStation = true := by
  refine ⟨?_, ?_, ?_, ?_, ?_, ?_, ?_⟩ <;> decide +kernel

theorem witness_StepsKeepTheStackTheAnswersAndTheTable :
    busyStation.StackSound ∧ busyStation.AnswersSound ∧ busyStation.TableSound ∧ stepsOn busyStation = true := by
  refine ⟨?_, ?_, ?_, ?_⟩ <;> decide +kernel

theorem witness_StepsKeepTheMembershipAndTheConfiguration :
    busyStation.MembershipSound ∧ busyStation.ConfigSound ∧ stepsOn busyStation = true := by
  refine ⟨?_, ?_, ?_⟩ <;> decide +kernel

theorem witness_StepsKeepTheBrakesOn :
    (let s := { stationHeld [.obstruction] with
       drive := { station.drive with applied := .brakeHold, buffer := .brakeHold, obstructionKill := true }
       pending := [.driveStep] }
     s.KillSound ∧ s.LockoutSound ∧ s.holds.unreleased .obstruction = true ∧ stepsOn s = true) ∧
      (stationLocked.LockoutSound ∧ stationLocked.mode = .lockout ∧
        stepsOn { stationLocked with pending := [.driveStep] } = true) := by
  refine ⟨?_, ?_⟩ <;> decide +kernel

theorem witness_StepsKeepOneRelationAndItsHold :
    busyStation.RouteSound ∧ busyStation.RelationsSound ∧ busyStation.PairingSound ∧ stepsOn busyStation = true := by
  refine ⟨?_, ?_, ?_, ?_⟩ <;> decide +kernel

theorem witness_LockoutFreezesTheStation :
    stationLocked.mode = .lockout ∧ after .narrowStep stationLocked (fun t => decide (t.mode = .lockout)) = true ∧
      after .restart stationLocked (fun t => decide (t.mode = .parked ∧ t.holds.lockout = .none)) = true := by
  decide +kernel

end Sys2Proof.Tests
end

section
/-!
PROOFS. Road tracking: what each operation of the Road Tracker does, once, and from that the two statements about encoder
edges (O13) and markers (O14).
-/

namespace Sys2Proof.Machine

variable (s : State) (c : WorkingConfig)

/-! ### Holding a configuration, and kept values -/

theorem validConfig_eq_true_iff : s.validConfig = true ↔ s.loading = false ∧ s.holds.lockout ≠ .config := by
  simp [State.validConfig]

theorem validConfig_eq_false_iff : s.validConfig = false ↔ s.loading = true ∨ s.holds.lockout = .config := by
  rw [← Bool.not_eq_true, validConfig_eq_true_iff]
  cases s.loading <;> simp

/-- The clamp to `0..hi`, done on signed values, is truncated subtraction and a minimum on naturals. -/
theorem toNat_clampInt_zero (hi : Nat) (x : Int) : (clampInt 0 hi x).toNat = min x.toNat hi := by
  unfold clampInt
  omega

/-! ### Encoder edges -/

theorem exec_encoderEdge : exec .encoderEdge s = .next (settleLamps (encoderEdge s)) := rfl

theorem onRoad_eq (um : Int) : onRoad c um = min um.toNat (c.lRoad * 1000) := toNat_clampInt_zero (c.lRoad * 1000) um

/-- An edge moves the position by E_s, up or down, and keeps it on the road (R3). -/
theorem RoadTracker.moved_eq (r : RoadTracker) :
    r.moved c = match r.direction with
      | .up => min (r.posUm + c.eS) (c.lRoad * 1000)
      | .down => min (r.posUm - c.eS) (c.lRoad * 1000) := by
  unfold RoadTracker.moved
  cases r.direction with
  | up => exact onRoad_eq c _
  | down => exact (onRoad_eq c _).trans (by rw [Int.toNat_sub])

/-- The Drive Unit counts an edge while its step timer runs (R102). -/
theorem DriveUnit.countEdge_eq (d : DriveUnit) :
    d.countEdge = { d with edgeCount := if d.stepTimer = none then d.edgeCount else bump d.edgeCount } := by
  unfold DriveUnit.countEdge
  by_cases h : d.stepTimer = none
  · simp only [h, Option.isSome_none, Bool.false_eq_true, if_false, if_true]
    rw [← h]
  · simp [h, Option.isSome_iff_ne_none]

theorem encoderEdge_of_validConfig (h : s.validConfig = true) :
    encoderEdge s = (s.setRoad (s.road.edge s.cfg)).setDrive s.drive.countEdge := by
  simp [encoderEdge, h]

/-- Without a valid configuration the Road Tracker ignores the edge (R5), and a stopped step timer leaves it uncounted. -/
theorem encoderEdge_ignored (h : s.validConfig = false) (hstop : s.drive.stepTimer = none) : encoderEdge s = s := by
  simp [encoderEdge, h, DriveUnit.countEdge, hstop, State.setDrive]

/-! ### Corrections and turns -/

/-- The corrected front on naturals (R7). -/
theorem correctedFront_eq (d : Direction) (p : Nat) :
    correctedFront c d p = match d with
      | .up => min (p + c.readerOffset) c.lRoad
      | .down => min (p - c.readerOffset) c.lRoad := by
  unfold correctedFront
  rw [toNat_clampInt_zero]
  cases d with
  | up => rfl
  | down => rw [Int.toNat_sub]

theorem correctionPoor_iff (front : Nat) :
    s.correctionPoor front = true ↔ s.road.quality ≠ .unknown ∧ s.cfg.snap < s.discrepancy front := by
  simp [State.correctionPoor]

/-- A correction writes position, quality and distance, and counts a POOR one (R7, R8). -/
theorem correctPosition_eq (p : Nat) :
    let front := correctedFront s.cfg s.road.direction p
    let poor := s.correctionPoor front = true
    correctPosition p s = (s.setRoad
        { s.road with posUm := front * 1000, quality := if poor then .poor else .good, sinceMarkerUm := 0 }).setCounters
      { s.counters with
        largeCorrection := if poor then bump s.counters.largeCorrection else s.counters.largeCorrection } := by
  intro front poor
  unfold correctPosition
  by_cases h : s.correctionPoor front = true
  · simp [poor, front, h]
  · simp only [poor, front, h]
    rfl

@[simp] theorem correctPosition_direction (p : Nat) : (correctPosition p s).road.direction = s.road.direction := by
  simp [correctPosition_eq]

theorem turnTo_self : turnTo s.road.direction s = s := if_pos rfl

/-- A turn writes the direction, and sets both turn-pending flags where it differs (R10). -/
theorem turnTo_eq (d : Direction) :
    turnTo d s = s.setRoad
      { s.road with
        direction := d
        turnSpacing := s.road.turnSpacing || decide (d ≠ s.road.direction)
        turnNarrow := s.road.turnNarrow || decide (d ≠ s.road.direction) } := by
  by_cases h : d = s.road.direction
  · simp [h, turnTo_self, State.setRoad]
  · simp [turnTo, h]

/-! ### Markers -/

theorem WorkingConfig.inNarrow_iff (p : Nat) : c.inNarrow p = true ↔ ∃ e ∈ c.narrows, e.disabled = none ∧ e.lo ≤ p ∧ p ≤ e.hi := by
  simp [WorkingConfig.inNarrow, and_assoc]

/-- The direction a marker leaves the rig with: a TURN entry gives its own outside every enabled narrow (R6, R10). -/
def State.markedDirection (m : MarkerEntry) : Direction :=
  if m.kind = 1 ∧ ¬s.cfg.inNarrow m.position = true then .up
  else if m.kind = 2 ∧ ¬s.cfg.inNarrow m.position = true then .down
  else s.road.direction

/-- Every matching marker corrects and then turns: a position marker turns to the direction the rig already has (R6). -/
theorem takeMarker_eq (m : MarkerEntry) :
    takeMarker m s = turnTo (s.markedDirection m) (correctPosition m.position s) := by
  have hkeep : turnTo s.road.direction (correctPosition m.position s) = correctPosition m.position s := by
    simpa using turnTo_self (correctPosition m.position s)
  unfold takeMarker State.markedDirection MarkerEntry.newDirection
  by_cases hin : s.cfg.inNarrow m.position = true
  · simp only [hin, not_true_eq_false, and_false, if_false, if_true, hkeep]
    split <;> rfl
  · by_cases hup : m.kind = 1
    · simp [hin, hup]
    · by_cases hdown : m.kind = 2
      · simp [hin, hdown]
      · simp [hup, hdown, hkeep]

/-! ### Code bytes (R5, R6) -/

section
variable {s} {code : Nat}

theorem exec_markerCode (b : Byte) : exec (.markerCode b) s = .next (settleLamps (markerCode b.toNat s)) := rfl

theorem markerCode_without_config (h : s.validConfig = false) : markerCode code s = s := if_pos (.inl h)

theorem markerCode_zero (h0 : code = 0) : markerCode code s = s := if_pos (.inr h0)

theorem markerCode_unreadable (h : s.validConfig = true) (h255 : code = 255) :
    markerCode code s = s.setCounters { s.counters with unreadableMarker := bump s.counters.unreadableMarker } := by
  simp [markerCode, h, h255]

/-- Any other code is looked up among the enabled entries. -/
theorem markerCode_lookup (h : s.validConfig = true) (h0 : code ≠ 0) (h255 : code ≠ 255) :
    markerCode code s =
      ((s.cfg.marker code).map (takeMarker · s)).getD
        (s.setCounters { s.counters with unknownMarker := bump s.counters.unknownMarker }) := by
  simp only [markerCode, h, h0, h255, Bool.true_eq_false, or_self, if_false]
  cases s.cfg.marker code <;> rfl

end

theorem WorkingConfig.marker_eq_none (code : Nat) (h : ∀ m ∈ c.markers, m.disabled = none → m.code ≠ code) : c.marker code = none := by
  simpa [WorkingConfig.marker] using h

end Sys2Proof.Machine

namespace Sys2Proof.Proofs

open Sys2Proof.Machine

/-- Settles O13: the edge reaches the Road Tracker and the Drive Unit, each by its own equation. -/
theorem encoderEdgeMovesTheRig : Obligations.EncoderEdgeMovesTheRig := by
  intro s
  refine ⟨fun hload hlock => ?_, fun hnone hstop => ?_⟩
  · have hvalid := (validConfig_eq_true_iff s).2 ⟨hload, hlock⟩
    rw [exec_encoderEdge, encoderEdge_of_validConfig s hvalid, DriveUnit.countEdge_eq]
    unfold RoadTracker.edge
    rw [RoadTracker.moved_eq]
    rfl
  · rw [exec_encoderEdge, encoderEdge_ignored s ((validConfig_eq_false_iff s).2 hnone) hstop]

/-- Settles O14: by the classes of a code byte; a known one corrects the position and then turns. -/
theorem markerCodesAreClassified : Obligations.MarkerCodesAreClassified := by
  intro s code
  refine ⟨fun hnone => ?_, fun hload hlock => ?_⟩
  · rw [exec_markerCode, markerCode_without_config ((validConfig_eq_false_iff s).2 hnone)]
  have hvalid := (validConfig_eq_true_iff s).2 ⟨hload, hlock⟩
  have hlookup (h0 : code ≠ 0) (h255 : code ≠ 255) :=
    markerCode_lookup (code := code.toNat) hvalid (by bv_omega) (by bv_omega)
  refine ⟨?zero, ?unreadable, ?unknown, ?known⟩
  case zero =>
    intro h0
    rw [exec_markerCode, markerCode_zero (by rw [h0]; rfl)]
  case unreadable =>
    intro h255
    rw [exec_markerCode, markerCode_unreadable hvalid (by rw [h255]; rfl)]
    rfl
  case unknown =>
    intro h0 h255 hfree
    rw [exec_markerCode, hlookup h0 h255, WorkingConfig.marker_eq_none s.cfg code.toNat hfree]
    rfl
  case known =>
    intro m h0 h255 hfind
    have hmarker : s.cfg.marker code.toNat = some m := hfind
    rw [exec_markerCode, hlookup h0 h255, hmarker, Option.map_some, Option.getD_some, takeMarker_eq, turnTo_eq,
      correctPosition_eq]
    simp only [State.markedDirection, WorkingConfig.inNarrow_iff, correctionPoor_iff, correctedFront_eq]
    rfl

end Sys2Proof.Proofs
end

section
/-!
PROOFS. The CRC (R24). A remainder that takes its own leading bits as message bits is only shifted, so the CRC continued over
the two bytes that hold it ends at 0; and taking a message bit loses nothing of the remainder, so no other remainder ends there
with them. From that the statement about the CRC and its two checks (O19).
-/

namespace Sys2Proof.Machine

/-! ### One message bit -/

/-- The step as R24 words it: combined where the top bit and the message bit differ. -/
theorem crcBit_eq_ite_ne :
    crcBit = fun (rem : Word16) (bit : Bool) => if rem.getMsbD 0 ≠ bit then (rem <<< 1) ^^^ 0x1021#16 else rem <<< 1 := by
  funext rem bit
  simp [crcBit, BitVec.getMsbD]

/-- Where the message bit is the remainder's own top bit, the remainder is only shifted. -/
theorem crcBit_of_msb_eq {rem : Word16} {bit : Bool} (h : rem[15] = bit) : crcBit rem bit = rem <<< 1 := by
  simp [crcBit, ← h]

/-- 0x1021 is odd and the shift brings 0 in, so the lowest bit tells whether the two were combined. -/
theorem crcBit_getElem_zero (rem : Word16) (bit : Bool) : (crcBit rem bit)[0] = (rem[15] ^^ bit) := by
  by_cases h : rem[15] = bit
  · simp [crcBit_of_msb_eq h, h]
  · simp [crcBit, h]

theorem eq_of_msb_eq_of_shiftLeft_one_eq {x y : Word16} (hmsb : x[15] = y[15]) (hshift : x <<< 1 = y <<< 1) : x = y := by
  ext i hi
  by_cases htop : i = 15
  · subst htop
    exact hmsb
  · have hbit : (x <<< 1)[i + 1] = (y <<< 1)[i + 1] := by rw [hshift]
    simpa using hbit

/-- Taking a message bit loses nothing of the remainder. -/
theorem crcBit_injective (bit : Bool) : Function.Injective (crcBit · bit) := by
  intro x y (h : crcBit x bit = crcBit y bit)
  have hmsb : x[15] = y[15] := by
    have hlow : (crcBit x bit)[0] = (crcBit y bit)[0] := by rw [h]
    simpa [crcBit_getElem_zero] using hlow
  refine eq_of_msb_eq_of_shiftLeft_one_eq hmsb ?_
  by_cases hbit : y[15] = bit
  · rwa [crcBit_of_msb_eq (hmsb.trans hbit), crcBit_of_msb_eq hbit] at h
  · simpa [crcBit, hmsb, hbit] using h

/-! ### One byte -/

theorem foldl_injective {α β : Type} {f : β → α → β} (hf : ∀ a, Function.Injective (f · a)) (l : List α) :
    Function.Injective (l.foldl f ·) := by
  induction l with
  | nil => exact fun _ _ h => h
  | cons a l ih => exact ih.comp (hf a)

theorem crcByte_injective (b : Byte) : Function.Injective (crcByte · b) :=
  foldl_injective (fun i => crcBit_injective (b.getLsbD i)) [7, 6, 5, 4, 3, 2, 1, 0]

/-- A remainder that takes its own high byte is shifted by eight. -/
theorem crcByte_own_high (w : Word16) : crcByte w (w.extractLsb' 8 8) = w <<< 8 := by
  simp [crcByte, crcBit_of_msb_eq, ← BitVec.shiftLeft_add]

theorem extractLsb'_high_shiftLeft (w : Word16) : (w <<< 8).extractLsb' 8 8 = w.extractLsb' 0 8 := by
  ext i hi
  have hbelow : i < 16 := by omega
  have habove : 8 + i < 16 := by omega
  simp [hbelow, habove]

/-- A remainder that takes both its own bytes is shifted out. -/
theorem crcByte_own_bytes (w : Word16) : crcByte (crcByte w (w.extractLsb' 8 8)) (w.extractLsb' 0 8) = 0 := by
  rw [crcByte_own_high, ← extractLsb'_high_shiftLeft, crcByte_own_high, ← BitVec.shiftLeft_add]
  exact BitVec.shiftLeft_eq_zero (by decide)

/-- A byte is its eight bits from the most significant on (R24). -/
theorem crcByte_eq_foldl_msb (rem : Word16) (b : Byte) :
    crcByte rem b = ((List.range 8).map fun i => b.getMsbD i).foldl crcBit rem := rfl

/-! ### The CRC of a sequence and its two bytes -/

/-- A word as its two bytes, high byte first (R22). -/
theorem twoBytes_toNat (w : Word16) : twoBytes w.toNat = [w.extractLsb' 8 8, w.extractLsb' 0 8] := by
  have hhigh : byteOf (w.toNat / 256) = w.extractLsb' 8 8 := by
    simp [byteOf, BitVec.extractLsb', Nat.shiftRight_eq_div_pow]
  have hlow : byteOf (w.toNat % 256) = w.extractLsb' 0 8 := by
    apply BitVec.eq_of_toNat_eq
    simp [byteOf, BitVec.extractLsb']
  rw [twoBytes, hhigh, hlow]

theorem eq_append_iff_extractLsb' (w : Word16) (hi lo : Byte) :
    w = hi ++ lo ↔ w.extractLsb' 8 8 = hi ∧ w.extractLsb' 0 8 = lo := by
  constructor
  · rintro rfl
    exact ⟨BitVec.extractLsb'_append_eq_left, BitVec.extractLsb'_append_eq_right⟩
  · rintro ⟨rfl, rfl⟩
    have hwhole := BitVec.extractLsb'_append_extractLsb'_eq_extractLsb' (x := w) (show 8 = 0 + 8 from rfl) (len₂ := 8)
    exact (hwhole.trans BitVec.extractLsb'_eq_self).symm

theorem crcPasses_append_iff (body : List Byte) (hi lo : Byte) :
    crcPasses (body ++ [hi, lo]) = true ↔ crc body = hi ++ lo := by
  rw [eq_append_iff_extractLsb']
  simp [crcPasses, twoBytes_toNat, eq_comm (a := hi), eq_comm (a := lo)]

/-- The CRC continued over two bytes ends at 0 exactly where they hold it (R24). -/
theorem crc_append_eq_zero_iff (body : List Byte) (hi lo : Byte) : crc (body ++ [hi, lo]) = 0 ↔ crc body = hi ++ lo := by
  have hcontinued : crc (body ++ [hi, lo]) = crcByte (crcByte (crc body) hi) lo := List.foldl_append
  have hown : crcByte (crcByte (hi ++ lo) hi) lo = 0 := by
    obtain ⟨hhigh, hlow⟩ := (eq_append_iff_extractLsb' (hi ++ lo) hi lo).1 rfl
    simpa only [hhigh, hlow] using crcByte_own_bytes (hi ++ lo)
  rw [hcontinued, ← hown, (crcByte_injective lo).eq_iff, (crcByte_injective hi).eq_iff]

end Sys2Proof.Machine

namespace Sys2Proof.Proofs

open Sys2Proof.Machine

/-- Settles O19: the two checks agree since a remainder cancels its own two bytes and each byte is taken injectively. -/
theorem crcChecksItself : Obligations.CrcChecksItself := by
  refine ⟨fun bytes => ?_, by decide +kernel, fun body => ?_, fun body hi lo => ?_⟩
  · rw [← crcBit_eq_ite_ne, List.foldl_flatMap]
    simp only [← crcByte_eq_foldl_msb]
    rfl
  · rw [withCrc, twoBytes_toNat]
  · exact ⟨crcPasses_append_iff body hi lo, crc_append_eq_zero_iff body hi lo⟩

end Sys2Proof.Proofs
end

section
/-!
PROOFS. The predecessor (R69, R70). The gap and the candidates are read from the time, the configuration, the Road Tracker and
the Peer Table, none of which a control step touches before its selection; the selection finds the nearest of the candidates;
and no later stage of the step writes the predecessor. From that the statement about the predecessor (O39).
-/

namespace Sys2Proof.Machine

variable (s : State)

/-! ### The nearest record (R70) -/

section
variable {s}

theorem nearer_iff (a b : PeerRecord) :
    s.nearer a b = true ↔ s.gapTo a < s.gapTo b ∨ (s.gapTo a = s.gapTo b ∧ a.id < b.id) := by
  simp [State.nearer]

theorem nearer_asymm {a b : PeerRecord} (h : s.nearer a b = true) : s.nearer b a = false := by
  rw [nearer_iff] at h
  rw [← Bool.not_eq_true, nearer_iff]
  omega

theorem nearest_mem {l : List PeerRecord} {v : PeerRecord} (h : s.nearest l = some v) : v ∈ l := by
  induction l with
  | nil => simp [State.nearest] at h
  | cons y ys ih =>
    simp only [State.nearest] at h
    split at h
    · simp_all
    · split at h <;> simp_all

/-- A record nearer than every other one of a list is its nearest. -/
theorem nearest_eq_some {l : List PeerRecord} {r : PeerRecord} (hr : r ∈ l)
    (hmin : ∀ x ∈ l, x ≠ r → s.nearer r x = true) : s.nearest l = some r := by
  induction l with
  | nil => simp at hr
  | cons y ys ih =>
    by_cases hy : y = r
    · subst hy
      cases hrest : s.nearest ys with
      | none => simp [State.nearest, hrest]
      | some v =>
        have hv : v ≠ y → s.nearer y v = true := hmin v (List.mem_cons_of_mem y (nearest_mem hrest))
        by_cases heq : v = y
        · simp [State.nearest, hrest, heq]
        · simp [State.nearest, hrest, hv heq]
    · have hrest : s.nearest ys = some r :=
        ih ((List.mem_cons.1 hr).resolve_left (Ne.symm hy)) fun x hx => hmin x (List.mem_cons_of_mem y hx)
      have hfar : s.nearer y r = false := nearer_asymm (hmin y List.mem_cons_self hy)
      simp [State.nearest, hrest, hfar]

theorem selected_eq_none (h : ∀ r ∈ s.peers.records, ¬s.candidate r = true) : s.selected = none := by
  rw [State.selected, List.filter_eq_nil_iff.2 h]
  rfl

theorem selected_eq_some {r : PeerRecord} (hr : r ∈ s.peers.records) (hcand : s.candidate r = true)
    (hmin : ∀ x ∈ s.peers.records, s.candidate x = true → x ≠ r → s.nearer r x = true) : s.selected = some r := by
  refine nearest_eq_some (List.mem_filter.2 ⟨hr, hcand⟩) fun x hx => ?_
  obtain ⟨hmem, hx⟩ := List.mem_filter.1 hx
  exact hmin x hmem hx

end

theorem candidate_iff (r : PeerRecord) :
    s.candidate r = true ↔
      s.cfg.wAhead ≠ 0 ∧ s.road.quality ≠ .unknown ∧ r.direction = s.road.direction ∧ r.quality ≠ .unknown ∧
      (s.road.direction = .up → (s.front : Int) < projectedFront s.cfg s.time r) ∧
      (s.road.direction = .down → projectedFront s.cfg s.time r < (s.front : Int)) ∧ s.gapTo r ≤ s.cfg.wAhead := by
  unfold State.candidate
  cases s.road.direction <;> simp [and_assoc]

/-- The gap to a record of own direction: from its projected rear to the own front (R70). -/
theorem gapTo_of_own_direction {r : PeerRecord} (hdir : r.direction = s.road.direction) :
    s.gapTo r = match s.road.direction with
      | .up => projectedFront s.cfg s.time r - r.rigLength - s.front
      | .down => s.front - (projectedFront s.cfg s.time r + r.rigLength) := by
  rw [State.gapTo, projectedRear, hdir]
  cases s.road.direction <;> rfl

/-! ### What the selection reads -/

/-- Two stations read the same predecessor: they agree in all that the gap, the candidates and the selection read. -/
structure State.SameRoadAhead (s t : State) : Prop where
  time : t.time = s.time
  config : t.config = s.config
  posUm : t.road.posUm = s.road.posUm
  direction : t.road.direction = s.road.direction
  quality : t.road.quality = s.road.quality
  peers : t.peers = s.peers

section
variable {s} {t : State}

theorem State.SameRoadAhead.cfg (h : s.SameRoadAhead t) : t.cfg = s.cfg := by
  rw [State.cfg, State.cfg, h.config]

theorem State.SameRoadAhead.front (h : s.SameRoadAhead t) : t.front = s.front := by
  rw [State.front, State.front, h.posUm]

theorem State.SameRoadAhead.gapTo (h : s.SameRoadAhead t) : t.gapTo = s.gapTo := by
  funext r
  rw [State.gapTo, State.gapTo, h.direction, h.cfg, h.time, h.front]

theorem State.SameRoadAhead.candidate (h : s.SameRoadAhead t) : t.candidate = s.candidate := by
  funext r
  rw [State.candidate, State.candidate, h.direction, h.quality, h.cfg, h.time, h.front, h.gapTo]

theorem State.SameRoadAhead.nearer (h : s.SameRoadAhead t) : t.nearer = s.nearer := by
  funext a b
  rw [State.nearer, State.nearer, h.gapTo]

theorem State.SameRoadAhead.nearest (h : s.SameRoadAhead t) (l : List PeerRecord) : t.nearest l = s.nearest l := by
  induction l with
  | nil => rfl
  | cons y ys ih => rw [State.nearest, State.nearest, ih, h.nearer]

theorem State.SameRoadAhead.selected (h : s.SameRoadAhead t) : t.selected = s.selected := by
  rw [State.selected, State.selected, h.peers, h.candidate, h.nearest]

end

/-! ### Where the Spacing Unit stands after each stage -/

@[simp] theorem noteModeChange_spacing (before : Mode) : (noteModeChange before s).spacing = s.spacing := by
  rw [noteModeChange_frame]
  rfl

@[simp] theorem pushHold_spacing (cause : HoldCause) (lost : Option Nat) :
    (pushHold cause lost s).spacing = s.spacing := by
  rw [pushHold_frame]
  rfl

@[simp] theorem joinNotice_spacing (id : Nat) : (joinNotice id s).spacing = s.spacing := by
  rw [joinNotice_frame]
  rfl

@[simp] theorem setMembership_spacing (u : SpacingUnit) : (s.setMembership u).spacing = u := by
  simp [State.setMembership]

/-- Taking a turn changes nothing that the selection reads. -/
theorem takeTurn_sameRoadAhead : s.SameRoadAhead (takeTurn s) := by
  unfold takeTurn
  split
  · rw [noteModeChange_frame]
    exact ⟨rfl, rfl, rfl, rfl, rfl, rfl⟩
  · exact ⟨rfl, rfl, rfl, rfl, rfl, rfl⟩

@[simp] theorem linkLossCheck_predecessor (sel : Option PeerRecord) :
    (linkLossCheck sel s).spacing.predecessor = s.spacing.predecessor := by
  cases sel with
  | none => rfl
  | some r =>
    simp only [linkLossCheck]
    split <;> simp

@[simp] theorem joinBehind_predecessor (r : PeerRecord) (u : SpacingUnit) :
    (joinBehind r u s).spacing.predecessor = u.predecessor := by
  simp [joinBehind]

@[simp] theorem splitOff_predecessor : (splitOff s).spacing.predecessor = s.spacing.predecessor := by
  simp [splitOff]

@[simp] theorem updateMembership_predecessor (r : PeerRecord) (splitTimer : Running) :
    (updateMembership r splitTimer s).spacing.predecessor = s.spacing.predecessor := by
  simp only [updateMembership]
  split <;> simp

@[simp] theorem park_predecessor : (park s).spacing.predecessor = s.spacing.predecessor := by
  simp [park, SpacingUnit.parkedAs]

@[simp] theorem wakeToHead_predecessor : (wakeToHead s).spacing.predecessor = s.spacing.predecessor := by
  simp [wakeToHead]

@[simp] theorem freezeMembership_predecessor : (freezeMembership s).spacing.predecessor = s.spacing.predecessor := rfl

@[simp] theorem headMembership_predecessor (sel : Option PeerRecord) :
    (headMembership sel s).spacing.predecessor = s.spacing.predecessor := by
  cases sel with
  | none => rfl
  | some r =>
    simp only [headMembership]
    split <;> simp

@[simp] theorem followMembership_predecessor (sel : Option PeerRecord) :
    (followMembership sel s).spacing.predecessor = s.spacing.predecessor := by
  cases sel with
  | none => simp [followMembership]
  | some r =>
    simp only [followMembership]
    repeat' split
    all_goals simp

@[simp] theorem parkedMembership_predecessor (sel : Option PeerRecord) (autoEntry turned : Bool) :
    (parkedMembership sel autoEntry turned s).spacing.predecessor = s.spacing.predecessor := by
  simp only [parkedMembership]
  repeat' split
  all_goals simp

@[simp] theorem runningMembership_predecessor (sel : Option PeerRecord) (turned : Bool) :
    (runningMembership sel turned s).spacing.predecessor = s.spacing.predecessor := by
  unfold runningMembership
  cases s.spacing.role with
  | parked => rfl
  | head => cases turned <;> simp
  | follow => cases turned <;> simp

/-- Membership is decided from the predecessor and leaves it as selected, in every mode. -/
@[simp] theorem membershipStage_predecessor (sel : Option PeerRecord) (turned : Bool) :
    (membershipStage sel turned s).spacing.predecessor = s.spacing.predecessor := by
  simp only [membershipStage]
  repeat' split
  all_goals simp

@[simp] theorem referenceStage_predecessor (sel : Option PeerRecord) :
    (referenceStage sel s).spacing.predecessor = s.spacing.predecessor := by
  simp only [referenceStage]
  split <;> rfl

/-! ### The predecessor after a step -/

/-- The predecessor as a selected record gives it (R70). -/
def State.predecessorOf (s : State) (r : PeerRecord) : Predecessor := { id := r.id, gap := s.gapTo r }

@[simp] theorem selectPredecessor_predecessor (sel : Option PeerRecord) :
    (selectPredecessor sel s).spacing.predecessor = sel.map s.predecessorOf := rfl

theorem State.SameRoadAhead.map_predecessorOf {s t : State} (h : s.SameRoadAhead t) :
    t.selected.map t.predecessorOf = s.selected.map s.predecessorOf := by
  have hof : t.predecessorOf = s.predecessorOf := by
    funext r
    rw [State.predecessorOf, State.predecessorOf, h.gapTo]
  rw [h.selected, hof]

theorem spacingStages_predecessor :
    (spacingStages s).spacing.predecessor = s.selected.map s.predecessorOf := by
  simpa [spacingStages] using (takeTurn_sameRoadAhead s).map_predecessorOf

/-- Whichever way the step sample is ordered, the step leaves the predecessor selected as it began. -/
theorem spacingStep_predecessor : (spacingStep s).spacing.predecessor = s.selected.map s.predecessorOf := by
  let counted := s.setFreeCount (s.freeCount + 1)
  have hsampled : s.SameRoadAhead (takeSample counted) := ⟨rfl, rfl, rfl, rfl, rfl, rfl⟩
  have hcounted : s.SameRoadAhead counted := ⟨rfl, rfl, rfl, rfl, rfl, rfl⟩
  rcases spacingStep_cases s with h | h <;> rw [h]
  · exact (spacingStages_predecessor (takeSample counted)).trans hsampled.map_predecessorOf
  · exact (spacingStages_predecessor counted).trans hcounted.map_predecessorOf

/-- A step that is due is taken, with the step timer started again (R66). -/
theorem exec_spacingStep_of_due (hdue : s.stepDue s.spacing.stepTimer = true) :
    exec .spacingStep s = .next (settleLamps
      (spacingStep (s.setSpacing { s.spacing with stepTimer := s.spacing.stepTimer.again 20 }))) :=
  if_pos hdue

theorem stepDue_of_ran {start : Time} {timer : Running} (hload : s.loading = false) (hlock : s.holds.lockout ≠ .config)
    (htimer : timer = some start) (hran : 20 ≤ (s.time - start).toNat) : s.stepDue timer = true := by
  have hran' : Running.ranFor (some start) s.time 20 = true := decide_eq_true hran
  simp [State.stepDue, (validConfig_eq_true_iff s).2 ⟨hload, hlock⟩, htimer, hran']

/-- The step, and the predecessor it leaves: the one selected of the state it found. -/
theorem exec_spacingStep_predecessor (hdue : s.stepDue s.spacing.stepTimer = true) :
    ∃ t, exec .spacingStep s = .next t ∧ t.spacing.predecessor = s.selected.map s.predecessorOf := by
  have hrestarted : s.SameRoadAhead (s.setSpacing { s.spacing with stepTimer := s.spacing.stepTimer.again 20 }) :=
    ⟨rfl, rfl, rfl, rfl, rfl, rfl⟩
  exact ⟨_, exec_spacingStep_of_due s hdue, (spacingStep_predecessor _).trans hrestarted.map_predecessorOf⟩

end Sys2Proof.Machine

namespace Sys2Proof.Proofs

open Sys2Proof.Machine

/-- Settles O39: the step leaves the record selected of the state it found, and that is the nearest candidate. -/
theorem predecessorIsTheNearestCandidate : Obligations.PredecessorIsTheNearestCandidate := by
  intro s start hload hlock htimer hran _ front projected gap candidate
  obtain ⟨t, hexec, hpred⟩ := exec_spacingStep_predecessor s (stepDue_of_ran s hload hlock htimer hran)
  have hgap {r : PeerRecord} (hdir : r.direction = s.road.direction) : s.gapTo r = gap r :=
    gapTo_of_own_direction s hdir
  have hgapOf {r : PeerRecord} : candidate r → s.gapTo r = gap r := fun ⟨_, _, hdir, _⟩ => hgap hdir
  have hcand (r : PeerRecord) : s.candidate r = true ↔ candidate r := by
    rw [candidate_iff]
    by_cases hdir : r.direction = s.road.direction
    · rw [hgap hdir]
      rfl
    · simp [candidate, hdir]
  refine ⟨t, hexec, fun hnone => ?_, fun r hr hcandr hmin => ?_⟩
  · rw [hpred, selected_eq_none fun r hr h => hnone r hr ((hcand r).1 h)]
    rfl
  · have hsel : s.selected = some r :=
      selected_eq_some hr ((hcand r).2 hcandr) fun x hx hcandx hne =>
        have hx' : candidate x := (hcand x).1 hcandx
        (nearer_iff r x).2 (by simpa only [hgapOf hcandr, hgapOf hx'] using hmin x hx hx' hne)
    rw [hpred, hsel, Option.map_some, State.predecessorOf, hgapOf hcandr]

end Sys2Proof.Proofs
end

section
/-!
PROOFS. The station mode: the line of R125's table that gives it, one equation for each line, and O50. The lines are told
apart by the two questions the table asks of the stack: is there an unreleased record of a cause other than NARROW_WAIT,
and is there one of NARROW_WAIT.
-/

namespace Sys2Proof.Machine

/-! ### The two questions asked of the stack (R125) -/

/-- An unreleased record halts the station, unless its cause is NARROW_WAIT. -/
def HoldStack.Halts (h : HoldStack) : Prop := ∃ r ∈ h.stack, r.released = false ∧ r.cause ≠ .narrowWait

/-- An unreleased NARROW_WAIT keeps the station waiting. -/
def HoldStack.Waits (h : HoldStack) : Prop := ∃ r ∈ h.stack, r.released = false ∧ r.cause = .narrowWait

theorem HoldStack.any_halting_iff (h : HoldStack) :
    h.stack.any (fun r => !r.released && decide (r.cause ≠ .narrowWait)) = true ↔ h.Halts := by
  simp [HoldStack.Halts]

/-- An unreleased record of a stack that halts nothing is a NARROW_WAIT. -/
theorem HoldStack.any_unreleased_iff {h : HoldStack} (hhalts : ¬h.Halts) :
    h.stack.any (fun r => !r.released) = true ↔ h.Waits := by
  simp only [List.any_eq_true, Bool.not_eq_true']
  constructor
  · rintro ⟨r, hr, hrel⟩
    exact ⟨r, hr, hrel, not_not.1 fun hcause => hhalts ⟨r, hr, hrel, hcause⟩⟩
  · rintro ⟨r, hr, hrel, -⟩
    exact ⟨r, hr, hrel⟩

/-! ### The lines of the table (R125) -/

section
variable {s : State}

theorem loading_eq_true_iff : s.loading = true ↔ s.loader.phase ≠ .idle := decide_eq_true_iff

theorem mode_of_loading (hload : s.loader.phase ≠ .idle) : s.mode = .start := by
  rw [State.mode, deriveMode, if_pos (loading_eq_true_iff.2 hload)]

theorem mode_of_lockout (hidle : s.loader.phase = .idle) (hlock : s.holds.lockout ≠ .none) : s.mode = .lockout := by
  rw [State.mode, deriveMode, if_neg (mt loading_eq_true_iff.1 (not_not.2 hidle)), if_pos hlock]

/-- A station that neither loads nor is locked out: the stack decides, and then the role. -/
theorem mode_of_running (hidle : s.loader.phase = .idle) (hlock : s.holds.lockout = .none) :
    s.mode =
      if s.holds.stack.any (fun r => !r.released && decide (r.cause ≠ .narrowWait)) then .halt
      else if s.holds.stack.any (fun r => !r.released) then .wait
      else s.spacing.role.asMode := by
  rw [State.mode, deriveMode, if_neg (mt loading_eq_true_iff.1 (not_not.2 hidle)), if_neg (not_not.2 hlock)]

theorem mode_of_halts (hidle : s.loader.phase = .idle) (hlock : s.holds.lockout = .none) (hhalts : s.holds.Halts) :
    s.mode = .halt := by
  rw [mode_of_running hidle hlock, if_pos (s.holds.any_halting_iff.2 hhalts)]

theorem mode_of_waits (hidle : s.loader.phase = .idle) (hlock : s.holds.lockout = .none) (hhalts : ¬s.holds.Halts)
    (hwaits : s.holds.Waits) : s.mode = .wait := by
  rw [mode_of_running hidle hlock, if_neg (mt s.holds.any_halting_iff.1 hhalts),
    if_pos ((HoldStack.any_unreleased_iff hhalts).2 hwaits)]

theorem mode_of_not_held (hidle : s.loader.phase = .idle) (hlock : s.holds.lockout = .none) (hhalts : ¬s.holds.Halts)
    (hwaits : ¬s.holds.Waits) : s.mode = s.spacing.role.asMode := by
  rw [mode_of_running hidle hlock, if_neg (mt s.holds.any_halting_iff.1 hhalts),
    if_neg (mt (HoldStack.any_unreleased_iff hhalts).1 hwaits)]

end

end Sys2Proof.Machine

namespace Sys2Proof.Proofs

open Sys2Proof.Machine

/-- Settles O50: down the table's lines; in each case the line's mode is the station's, and every other line is shut out. -/
theorem modeIsDerived : Obligations.ModeIsDerived := by
  intro s halted waiting running
  by_cases hidle : s.loader.phase = .idle
  case neg => simp [running, mode_of_loading hidle, hidle]
  by_cases hlock : s.holds.lockout = .none
  case neg => simp [running, mode_of_lockout hidle hlock, hidle, hlock]
  by_cases hhalts : halted
  case pos => simp [running, mode_of_halts hidle hlock hhalts, hidle, hlock, hhalts]
  by_cases hwaits : waiting
  case pos => simp [running, mode_of_waits hidle hlock hhalts hwaits, hidle, hlock, hhalts, hwaits]
  have hrole := mode_of_not_held hidle hlock hhalts hwaits
  cases hr : s.spacing.role <;> simp [running, hrole, hr, Role.asMode, hidle, hlock, hhalts, hwaits]

end Sys2Proof.Proofs
end

section
/-!
PROOFS. What a command is made of. Every command but a load, a restart, power-on and CLEAR is a chain of writes, each to one
block, or to the Hold Stack with the blocks that change together with it. Here is what each write may do, once; the statements
about every command and every step follow from it.
-/

namespace Sys2Proof.Machine

/-! ### What a write may do to its block -/

/-- The 22 counters in the order of their record. -/
def Counters.values (c : Counters) : List Nat :=
  [c.largeCorrection, c.unknownMarker, c.unreadableMarker, c.malformed, c.crcError, c.unknownKind, c.idClash,
   c.beaconDropped, c.askDropped, c.answerWithdrawn, c.radioTimeout, c.oldSequence, c.tableFull, c.closeIn, c.overspeed,
   c.unclaimedEntry, c.lateObjection, c.narrowConflict, c.answerDropped, c.answerExpired, c.obstructionStop,
   c.requestDropped]

/-- Each counter stands, or has counted one event. -/
def Counters.CountedTo (a b : Counters) : Prop := List.Forall₂ (fun x y => y = x ∨ y = bump x) a.values b.values

/-- The generator may draw, the rotation may grant one of its classes, and the FIRST count may fall. -/
structure AirPort.MovedTo (a b : AirPort) : Prop where
  jitter : b.jitter = a.jitter ∨ b.jitter = jitterStep a.jitter
  rotation : b.rotation = a.rotation ∨ ∃ c ∈ a.rotation, b.rotation = rotate a.rotation c
  firstCount : b.firstCount ≤ a.firstCount

/-- The position stays, or is written on the road; and so with the rig length and the longest rig. -/
structure State.RoadMovedTo (s : State) (r : RoadTracker) : Prop where
  posUm : r.posUm = s.road.posUm ∨ r.posUm ≤ s.cfg.lRoad * 1000
  rigLength : r.rigLength = s.road.rigLength ∨ r.rigLength ≤ s.cfg.lTractor + s.cfg.lTrailer

/-- Records leave the table, or one sound record of another station comes in its place in road order. -/
def State.TableMovedTo (s : State) (records : List PeerRecord) : Prop :=
  records.Sublist s.peers.records ∨
  ∃ (p : PeerRecord) (rest : List PeerRecord), records = insertRecord p rest ∧ rest.Sublist s.peers.records ∧
    (rest.length < 16 ∨ rest.length < s.peers.records.length) ∧ (∀ r ∈ rest, r.id ≠ p.id) ∧ p.id ≠ s.ownId ∧ p.Sound ∧
    s.loading = false

/-- The throttle is kept, set to 0, or set within V_max outside START. -/
def State.ThrottleMovedTo (s : State) (throttle : Nat) : Prop :=
  throttle = s.handset.throttle ∨ throttle = 0 ∨ (s.loading = false ∧ throttle ≤ s.cfg.vMax)

/-- Outside LOCKOUT the order record takes a hop and a sequence of its ranges, or those of a held record. -/
structure State.OrderMovedTo (s : State) (o : OrderUnit) : Prop where
  running : s.mode ≠ .lockout
  hop : o.hop = s.order.hop ∨ o.hop ≤ 15
  seq : o.seq = s.order.seq ∨ o.seq ≤ 15 ∨ ∃ r ∈ s.peers.records, ∃ part ∈ r.orderPart, o.seq = part.seq

/-- Membership is kept, given up for the own convoy, or taken in another; V_ref stays within V_max, and in START it stays or
falls to 0. -/
structure State.SpacingMovedTo (s : State) (u : SpacingUnit) : Prop where
  membership : (u.memberIndex = s.spacing.memberIndex ∧ u.convoyId = s.spacing.convoyId) ∨
    (u.memberIndex = 0 ∧ u.convoyId = s.ownId) ∨ (1 ≤ u.memberIndex ∧ u.memberIndex ≤ 15 ∧ u.convoyId ≠ s.ownId)
  vRef : s.spacing.vRef ≤ s.cfg.vMax → u.vRef ≤ s.cfg.vMax
  loading : s.loading = true → u.vRef = s.spacing.vRef ∨ u.vRef = 0

/-- The values of a Drive Unit lie in their ranges (R100). -/
abbrev DriveUnit.Sound (d : DriveUnit) : Prop :=
  d.applied.Sound ∧ d.buffer.Sound ∧ d.vMeas ≤ 1023 ∧ d.edgeCount ≤ 65535 ∧ -65535 ≤ d.integral ∧ d.integral ≤ 65535

/-- The bridge brakes or holds and nothing else waits for it. -/
abbrev DriveUnit.Stopped (d : DriveUnit) : Prop :=
  (d.applied.state = .brake ∨ d.applied.state = .brakeHold) ∧ d.updatePending = false

/-- The ranges are kept, and so are the kill flag and, while the kill path is active, a stopped bridge. -/
structure State.DriveMovedTo (s : State) (d : DriveUnit) : Prop where
  sound : s.drive.Sound → d.Sound
  obstructionKill : d.obstructionKill = s.drive.obstructionKill
  stopped : s.killActive = true → s.drive.Stopped → d.Stopped

/-- An ask to come has asks left (R142). -/
abbrev NarrowRecord.AsksWithin (r : NarrowRecord) (nAsk : Nat) : Prop :=
  r.asksSent ≤ 7 ∧ (r.ask ≠ .none → r.asksSent < nAsk)

/-- What R152 freezes of a record in LOCKOUT. -/
def NarrowRecord.standing (r : NarrowRecord) : Relation × Option Phase × Nat × Bool :=
  (r.relation, r.phase, r.waitAge, r.inherited)

/-- The wait age and the asks of a record stay within their ranges. -/
structure State.RecordBoundsKept (s : State) (r r' : NarrowRecord) : Prop where
  waitAge : r.waitAge ≤ 255 → r'.waitAge ≤ 255
  asks : s.cfg.nAsk ≤ 7 → (s.config ≠ none → 2 ≤ s.cfg.nAsk) → r.AsksWithin s.cfg.nAsk → r'.AsksWithin s.cfg.nAsk

/-- A record keeps its relation, in LOCKOUT all that R152 freezes, and its bounds. -/
structure State.RecordMovedTo (s : State) (r r' : NarrowRecord) : Prop extends s.RecordBoundsKept r r' where
  relation : r'.relation = r.relation
  frozen : s.mode = .lockout → r'.standing = r.standing

/-- At most four answers, no two for the same matter (R150). -/
abbrev AnswersWithin (q : List AnswerEntry) : Prop :=
  q.length ≤ 4 ∧ (q.map (fun e => (e.askerId, e.narrow))).Nodup

/-- The records keep their relations, and the queue its bounds. -/
structure State.NarrowMovedTo (s : State) (n : NarrowUnit) : Prop where
  records : List.Forall₂ s.RecordMovedTo s.narrow.records n.records
  queue : AnswersWithin s.narrow.queue → AnswersWithin n.queue

/-- A relation may change with narrow `i`: it is the one relation held, or none is held and the narrow is enabled (R134). -/
def State.MayTake (s : State) (i : Nat) : Prop :=
  (s.narrowRecord i).relation ≠ .none ∨
  (s.loading = false ∧ (s.cfg.enabledNarrow i).isSome = true ∧ ∀ j, j ≠ i → (s.narrowRecord j).relation = .none)

/-! ### The writes -/

/-- A change of the Hold Stack, or of a relation, with all that changes together with it. -/
inductive HoldMove (s : State) : State → Prop where
  | push (cause : HoldCause) (lost : Option Nat) (hobst : cause ≠ .obstruction) (hwait : cause ≠ .narrowWait) :
      HoldMove s (pushHold cause lost s)
  | release (cause : HoldCause) (hwait : cause ≠ .narrowWait) : HoldMove s (releaseHold cause s)
  | activate : HoldMove s (obstructionActivation s)
  | wait (i : Nat) (hrun : s.mode ≠ .lockout) (hmay : s.RouteSound → s.RelationsSound → s.MayTake i) :
      HoldMove s (enterWaiting i s)
  | take (i : Nat) (inherited : Bool) (hrun : s.mode ≠ .lockout) (hmay : s.RouteSound → s.RelationsSound → s.MayTake i) :
      HoldMove s (enterHolding i inherited s)
  | claim (i : Nat) (hrun : s.mode ≠ .lockout) (hmay : s.RouteSound → s.RelationsSound → s.MayTake i)
      (hfree : (s.narrowRecord i).relation = .none) (henabled : (s.cfg.enabledNarrow i).isSome = true) :
      HoldMove s (enterAsking i s)
  | drop (i : Nat) (hrun : s.mode ≠ .lockout) : HoldMove s (dropRelation i s)

/-- One write of a command. -/
inductive Act (s : State) : State → Prop where
  | count : Act s (s.setFreeCount (s.freeCount + 1))
  | lamps : Act s (settleLamps s)
  | service (x : Service) : Act s (s.setService x)
  | sensors (x : Sensors) : Act s (s.setSensors x)
  | loader (x : Loader) (hold : s.loader.phase ≠ .idle) (hnew : x.phase ≠ .idle) : Act s (s.setLoader x)
  | counters (x : Counters) (h : s.counters.CountedTo x) : Act s (s.setCounters x)
  | air (x : AirPort) (h : s.air.MovedTo x) : Act s (s.setAir x)
  | road (x : RoadTracker) (h : s.RoadMovedTo x) : Act s (s.setRoad x)
  | peers (x : PeerTable) (h : s.TableMovedTo x.records) : Act s (s.setPeers x)
  | handset (x : Handset) (h : s.ThrottleMovedTo x.throttle) : Act s (s.setHandset x)
  | order (x : OrderUnit) (h : s.OrderMovedTo x) : Act s (s.setOrder x)
  | spacing (x : SpacingUnit) (h : s.SpacingMovedTo x) : Act s (s.setSpacing x)
  | drive (x : DriveUnit) (h : s.DriveMovedTo x) : Act s (s.setDrive x)
  | narrow (x : NarrowUnit) (h : s.NarrowMovedTo x) : Act s (s.setNarrow x)
  | hold (t : State) (h : HoldMove s t) : Act s t

/-- A chain of writes. -/
abbrev Acts : State → State → Prop := Relation.ReflTransGen Act

end Sys2Proof.Machine
end

section
/-!
PROOFS. The writes of each block's operations: the Air Port, the Road Tracker, the Drive Unit, the Hold Stack, orders and the
handset.
-/

namespace Sys2Proof.Machine

variable (s : State)

/-! ### Chains -/

variable {s} in
theorem Act.acts {t : State} (h : Act s t) : Acts s t := .single h

variable {s} in
theorem HoldMove.acts {t : State} (h : HoldMove s t) : Acts s t := .single (.hold t h)

theorem acts_if {p : Prop} [Decidable p] {a b : State} (ha : p → Acts s a) (hb : ¬p → Acts s b) :
    Acts s (if p then a else b) := by
  split
  · exact ha ‹_›
  · exact hb ‹_›

section
variable {s}

theorem acts_air {x : AirPort} (h : s.air.MovedTo x) : Acts s (s.setAir x) := (Act.air x h).acts

theorem acts_road {x : RoadTracker} (h : s.RoadMovedTo x) : Acts s (s.setRoad x) := (Act.road x h).acts

theorem acts_handset {x : Handset} (h : s.ThrottleMovedTo x.throttle) : Acts s (s.setHandset x) := (Act.handset x h).acts

theorem acts_order {x : OrderUnit} (h : s.OrderMovedTo x) : Acts s (s.setOrder x) := (Act.order x h).acts

theorem acts_spacing {x : SpacingUnit} (h : s.SpacingMovedTo x) : Acts s (s.setSpacing x) := (Act.spacing x h).acts

theorem acts_drive {x : DriveUnit} (h : s.DriveMovedTo x) : Acts s (s.setDrive x) := (Act.drive x h).acts

theorem acts_narrow {x : NarrowUnit} (h : s.NarrowMovedTo x) : Acts s (s.setNarrow x) := (Act.narrow x h).acts

theorem acts_counters {x : Counters} (h : s.counters.CountedTo x) : Acts s (s.setCounters x) := (Act.counters x h).acts

end

/-- A write to the Air Port that leaves generator, rotation and FIRST count. -/
theorem acts_setAir {a : AirPort} (hj : a.jitter = s.air.jitter) (hr : a.rotation = s.air.rotation)
    (hf : a.firstCount = s.air.firstCount) : Acts s (s.setAir a) :=
  (Act.air a ⟨.inl hj, .inl hr, hf.le⟩).acts

theorem acts_setTransmitter (x : Transmitter) : Acts s (s.setTransmitter x) := acts_setAir s rfl rfl rfl

theorem acts_setReception (x : Reception) : Acts s (s.setReception x) := acts_setAir s rfl rfl rfl

/-- A write to the Spacing Unit that leaves the membership and V_ref. -/
theorem acts_setSpacing {u : SpacingUnit} (hm : u.memberIndex = s.spacing.memberIndex)
    (hc : u.convoyId = s.spacing.convoyId) (hv : u.vRef = s.spacing.vRef) : Acts s (s.setSpacing u) :=
  (Act.spacing u ⟨.inl ⟨hm, hc⟩, fun h => hv ▸ h, fun _ => .inl hv⟩).acts

theorem acts_setHandset {h : Handset} (ht : h.throttle = s.handset.throttle) : Acts s (s.setHandset h) :=
  (Act.handset h (.inl ht)).acts

/-! ### The Hold Stack and the jitter generator -/

theorem acts_scheduleBeacon (period : Nat) : Acts s (scheduleBeacon period s) := by
  rw [scheduleBeacon_frame]
  exact acts_air ⟨.inr rfl, .inl rfl, le_rfl⟩

theorem acts_noteModeChange (before : Mode) : Acts s (noteModeChange before s) := by
  rcases noteModeChange_cases s before with h | h <;> rw [h]
  exact acts_scheduleBeacon s _

theorem acts_requestBeaconNow : Acts s (requestBeaconNow s) := acts_setAir s rfl rfl rfl

theorem acts_startBackoff : Acts s (startBackoff s) := by
  rcases startBackoff_cases s with h | ⟨c, n, since, -, -, h⟩ <;> rw [h]
  have hdrawn : Acts s s.afterDraw := acts_air ⟨.inr rfl, .inl rfl, le_rfl⟩
  exact hdrawn.trans (acts_setTransmitter _ _)

/-! ### Orders -/

theorem acts_actOnOrder (code : OrderCode) : Acts s (actOnOrder code s) := by
  cases code with
  | none => exact .refl
  | stopAll => exact (HoldMove.push .convoyStop none (by decide) (by decide)).acts
  | resumeAll =>
    exact (HoldMove.release .convoyStop (by decide)).acts.trans (HoldMove.release .linkLoss (by decide)).acts

theorem stackClosed_eq_false_iff : s.stackClosed = false ↔ s.mode ≠ .start ∧ s.mode ≠ .lockout := by
  simp [State.stackClosed]

theorem acts_issueOrder (code : OrderCode) : Acts s (issueOrder code s) := by
  refine acts_if s (fun hmay => ?_) fun _ => .refl
  simp only [State.mayIssue, Bool.and_eq_true, Bool.not_eq_true', stackClosed_eq_false_iff] at hmay
  obtain ⟨-, -, hlock⟩ := hmay
  have hseq : (s.order.seq + 1) % 16 ≤ 15 := by omega
  have hissued : Acts s (s.setOrder (s.order.issued code s.ownId)) :=
    acts_order ⟨hlock, .inr (Nat.zero_le 15), .inr (.inl hseq)⟩
  exact hissued.trans (acts_actOnOrder _ code)

/-- The order part of a record, once the record is sound or held (R165, R166). -/
theorem acts_takeOrder {r : PeerRecord} {part : OrderPart} (hrun : s.mode ≠ .lockout) (hpart : r.orderPart = some part)
    (hr : r ∈ s.peers.records ∨ r.Sound) (convoyId : Nat) : Acts s (s.setOrder (s.order.taken part convoyId)) := by
  refine acts_order ⟨hrun, .inr (min_le_right _ _), .inr ?_⟩
  rcases hr with hmem | hsound
  · exact .inr ⟨r, hmem, part, hpart, rfl⟩
  · obtain ⟨-, -, -, -, -, -, -, -, -, -, -, -, hparts⟩ := hsound
    exact .inl (hparts part hpart).2.1

theorem acts_joinNotice (id : Nat) : Acts s (joinNotice id s) := by
  refine acts_if s (fun _ => .refl) fun hrun => ?_
  have hnone : Acts s (s.setOrder { s.order with code := .none, unsynchronised := true }) :=
    acts_order ⟨hrun, .inl rfl, .inl rfl⟩
  cases hfind : s.peers.records.find? (fun r => decide (r.id = id)) with
  | none => exact hnone
  | some r =>
    cases hpart : r.orderPart with
    | none => simpa [hpart] using hnone
    | some part => simpa [hpart] using acts_takeOrder s hrun hpart (.inl (List.mem_of_find?_eq_some hfind)) r.convoyId

theorem acts_adoptionTest {p : PeerRecord} (hp : p.Sound) : Acts s (adoptionTest p s) := by
  unfold adoptionTest
  cases hpart : p.orderPart with
  | none => exact .refl
  | some part =>
    refine acts_if s (fun _ => .refl) fun hrun => ?_
    have htaken := acts_takeOrder s (not_or.1 hrun).2 hpart (.inr hp) p.convoyId
    exact acts_if s (fun _ => htaken) fun _ =>
      acts_if s (fun _ => htaken.trans (acts_actOnOrder _ part.code)) fun _ => .refl

/-! ### The Road Tracker -/

theorem acts_encoderEdge : Acts s (encoderEdge s) := by
  have hdrive (t : State) : Acts t (t.setDrive t.drive.countEdge) := by
    refine acts_drive ⟨fun h => ?_, ?_, fun _ h => ?_⟩
    all_goals rw [DriveUnit.countEdge_eq]
    · obtain ⟨happ, hbuf, hv, hcount, hlo, hhi⟩ := h
      refine ⟨happ, hbuf, hv, ?_, hlo, hhi⟩
      dsimp only
      split
      · exact hcount
      · exact min_le_right _ _
    · exact h
  refine Relation.ReflTransGen.trans (acts_if s (fun _ => ?_) fun _ => .refl) (hdrive _)
  refine acts_road ⟨.inr ?_, .inl rfl⟩
  show s.road.moved s.cfg ≤ _
  rw [RoadTracker.moved_eq]
  cases s.road.direction <;> exact min_le_right _ _

theorem acts_correctPosition (p : Nat) : Acts s (correctPosition p s) := by
  have hfront : correctedFront s.cfg s.road.direction p * 1000 ≤ s.cfg.lRoad * 1000 := by
    rw [correctedFront_eq]
    cases s.road.direction <;> exact Nat.mul_le_mul_right _ (min_le_right _ _)
  have hroad (q : Quality) : Acts s (s.setRoad
      { s.road with posUm := correctedFront s.cfg s.road.direction p * 1000, quality := q, sinceMarkerUm := 0 }) :=
    acts_road ⟨.inr hfront, .inl rfl⟩
  rw [correctPosition_eq]
  refine (hroad _).trans (acts_counters ?_)
  by_cases h : s.correctionPoor (correctedFront s.cfg s.road.direction p) = true <;>
    simp [h, Counters.CountedTo, Counters.values]

theorem acts_markerCode (code : Nat) : Acts s (markerCode code s) := by
  refine acts_if s (fun _ => .refl) fun _ => acts_if s (fun _ => acts_counters ?_) fun _ => ?_
  · simp [Counters.CountedTo, Counters.values]
  · cases s.cfg.marker code with
    | none => exact acts_counters (by simp [Counters.CountedTo, Counters.values])
    | some m =>
      show Acts s (takeMarker m s)
      rw [takeMarker_eq, turnTo_eq]
      exact (acts_correctPosition s _).trans (acts_road ⟨.inl rfl, .inl rfl⟩)

/-! ### The Drive Unit -/

theorem BridgeOutput.sound_coast : BridgeOutput.coast.Sound := by decide

theorem killOutput_sound (v : Nat) : (killOutput v).Sound := by
  unfold killOutput
  split <;> decide

theorem killOutput_stopped (v : Nat) : (killOutput v).state = .brake ∨ (killOutput v).state = .brakeHold := by
  unfold killOutput
  split <;> decide

theorem DriveUnit.kill_sound {d : DriveUnit} (h : d.Sound) : d.kill.Sound := by
  obtain ⟨-, -, hv, hcount, -, -⟩ := h
  exact ⟨killOutput_sound _, killOutput_sound _, hv, hcount, by simp [DriveUnit.kill, DriveUnit.force]⟩

theorem DriveUnit.kill_stopped (d : DriveUnit) : d.kill.Stopped := ⟨killOutput_stopped _, rfl⟩

theorem acts_kill : Acts s (s.setDrive s.drive.kill) :=
  acts_drive ⟨DriveUnit.kill_sound, rfl, fun _ _ => s.drive.kill_stopped⟩

theorem outputOf_sound {d : Int} (hlo : -1023 ≤ d) (hhi : d ≤ 1023) (vRef vMeas : Nat) : (outputOf d vRef vMeas).Sound := by
  unfold outputOf
  split
  · exact ⟨hlo, hhi, fun _ => ‹_›, nofun, nofun, nofun⟩
  split
  · exact ⟨hlo, hhi, nofun, fun _ => ‹_›, nofun, nofun⟩
  split <;> decide

theorem clampInt_bounds {lo hi : Int} (h : lo ≤ hi) (x : Int) : lo ≤ clampInt lo hi x ∧ clampInt lo hi x ≤ hi := by
  unfold clampInt
  omega

theorem speedLoop_sound (h : s.drive.Sound) : (speedLoop s).Sound := by
  obtain ⟨happ, -, hv, hcount, hlo, hhi⟩ := h
  have hduty (vRef vMeas : Nat) (integral grade : Int) := clampInt_bounds (lo := -1023) (hi := 1023) (by decide)
    ((vRef * s.cfg.kFf / 256 : Nat) + truncDiv (((vRef : Int) - vMeas) * s.cfg.kP) 64 + truncDiv integral 256 + grade)
  refine ⟨happ, outputOf_sound (hduty _ _ _ _).1 (hduty _ _ _ _).2 _ _, hv, hcount, ?_⟩
  show -65535 ≤ nextIntegral _ _ _ _ _ ∧ nextIntegral _ _ _ _ _ ≤ 65535
  unfold nextIntegral
  dsimp only
  split
  · decide
  split
  · exact ⟨hlo, hhi⟩
  · exact clampInt_bounds (by decide) _

theorem acts_driveStep : Acts s (driveStep s) := by
  have hcounted : Acts s (countOverspeed s) :=
    acts_if s (fun _ => acts_counters (by simp [Counters.CountedTo, Counters.values])) fun _ => .refl
  have hdrive : (countOverspeed s).drive = s.drive := by
    unfold countOverspeed
    split <;> rfl
  have hmeasured : Acts (countOverspeed s) ((countOverspeed s).setDrive (s.drive.measure s.cfg.eS)) := by
    refine acts_drive ⟨fun h => ?_, ?_, fun _ h => ?_⟩
    all_goals rw [hdrive] at *
    · obtain ⟨happ, hbuf, -, -, hint⟩ := h
      exact ⟨happ, hbuf, min_le_right _ _, Nat.zero_le _, hint⟩
    · rfl
    · exact h
  refine (hcounted.trans hmeasured).trans (acts_if _ (fun _ => acts_kill _) fun hkill => ?_)
  exact acts_drive ⟨speedLoop_sound _, rfl, fun h => absurd h hkill⟩

theorem acts_pwmPeriodEnd : Acts s (pwmPeriodEnd s) := by
  refine acts_if s (fun hpending => ?_) fun _ => .refl
  refine acts_drive ⟨fun h => ?_, rfl, fun _ h => ?_⟩
  · obtain ⟨-, hbuf, hv, hcount, hint⟩ := h
    exact ⟨hbuf, hbuf, hv, hcount, hint⟩
  · exact absurd (hpending.symm.trans h.2) (by decide)

/-! ### The sensors -/

theorem acts_hitchEdge (l : Level) : Acts s (hitchEdge l s) :=
  (Act.sensors _).acts.trans (acts_if _ (fun _ => (Act.sensors _).acts) fun _ => .refl)

theorem rigLength_le (c : WorkingConfig) (h : HitchState) : c.rigLength h ≤ c.lTractor + c.lTrailer := by
  cases h
  · exact Nat.le_add_right _ _
  · exact le_rfl

theorem acts_hitchExpiry : Acts s (hitchExpiry s) :=
  (Act.sensors _).acts.trans (acts_road ⟨.inl rfl, .inr (rigLength_le _ _)⟩)

theorem acts_obstEdge (l : Level) : Acts s (obstEdge l s) := by
  refine Relation.ReflTransGen.trans (Act.sensors { s.sensors with obstLine := l }).acts ?_
  refine acts_if _ (fun _ => acts_if _ (fun _ => acts_if _ (fun _ => (Act.sensors _).acts) fun _ => ?_) fun _ =>
    acts_if _ (fun _ => (Act.sensors _).acts) fun _ => .refl) fun _ => .refl
  exact (Act.sensors _).acts.trans HoldMove.activate.acts

theorem acts_obstExpiry : Acts s (obstExpiry s) := by
  refine Relation.ReflTransGen.trans (Act.sensors { s.sensors with obstActive := false, obstTimer := none }).acts ?_
  unfold obstExpiry obstructionInputRelease
  split
  · exact (HoldMove.release .obstruction (by decide)).acts
  · exact .refl

theorem acts_takeObstLevel : Acts s (takeObstLevel s) :=
  (Act.sensors _).acts.trans (acts_if _ (fun _ => HoldMove.activate.acts) fun _ => .refl)

/-! ### The handset -/

theorem acts_setDecoder {h : Handset} (ht : s.ThrottleMovedTo h.throttle) : Acts s (s.setDecoder h) :=
  (Act.handset (h.withResetTimer s.time) ht).acts

theorem throttleOf_le (vMax : Nat) {w : Nat} : throttleOf vMax w ≤ vMax := by
  unfold throttleOf
  split
  · exact Nat.zero_le _
  split
  · refine Nat.div_le_of_le_mul ?_
    exact Nat.mul_le_mul_right _ (by omega)
  · exact le_rfl

theorem acts_throttlePulse (w : Nat) : Acts s (throttlePulse w s) := by
  refine acts_if s (fun _ => .refl) fun _ => acts_setDecoder s ?_
  by_cases hvalid : s.validConfig = true
  · simp only [hvalid, if_true]
    exact .inr (.inr ⟨((validConfig_eq_true_iff s).1 hvalid).1, throttleOf_le _⟩)
  · simp only [hvalid]
    exact .inr (.inl rfl)

theorem acts_resumeNotice : Acts s (resumeNotice s) :=
  acts_if s (fun _ => (HoldMove.release .obstruction (by decide)).acts) fun _ => .refl

theorem acts_resumeGesture : Acts s (resumeGesture s) :=
  (((HoldMove.release .handsetStop (by decide)).acts.trans (HoldMove.release .linkLoss (by decide)).acts).trans
    (acts_resumeNotice _)).trans (acts_if _ (fun _ => acts_issueOrder _ _) fun _ => .refl)

theorem acts_noteBandChange (new : Band) : Acts s (noteBandChange new s) :=
  acts_if s (fun _ => acts_setSpacing s rfl rfl rfl) fun _ => .refl

theorem acts_bandChange (new : Band) : Acts s (bandChange new s) := by
  have hnoted : Acts s (noteBandChange new (s.setDecoder (s.handset.toBand s.time new))) :=
    (acts_setDecoder s (h := s.handset.toBand s.time new) (.inl rfl)).trans (acts_noteBandChange _ new)
  unfold bandChange
  dsimp only
  split
  · exact .refl
  split
  · exact hnoted.trans (HoldMove.push .handsetStop none (by decide) (by decide)).acts
  · exact hnoted.trans (acts_if _ (fun _ => acts_resumeGesture _) fun _ => .refl)

theorem acts_modePulse (w : Nat) : Acts s (modePulse w s) :=
  acts_if s (fun _ => .refl) fun _ =>
    (acts_setDecoder s (h := { s.handset with modeChannel := { present := true, lastPulse := s.time } }) (.inl rfl)).trans
      (acts_bandChange _ _)

theorem acts_handsetLoss (before : Band) : Acts s (handsetLoss before s) :=
  acts_if s (fun _ => (HoldMove.push .handsetStop none (by decide) (by decide)).acts) fun _ => .refl

theorem acts_channelAbsent (c : Channel) : Acts s (channelAbsent c s) := by
  cases c with
  | throttle =>
    have hsilent : Acts s (s.setDecoder
        { s.handset with throttleChannel := { s.handset.throttleChannel with present := false }, throttle := 0 }) :=
      acts_setDecoder s (.inr (.inl rfl))
    exact hsilent.trans (acts_handsetLoss _ _)
  | mode =>
    have hsilent : Acts s
        (s.setDecoder { s.handset with modeChannel := { s.handset.modeChannel with present := false } }) :=
      acts_setDecoder s (.inl rfl)
    exact (hsilent.trans (acts_bandChange _ _)).trans (acts_handsetLoss _ _)

theorem acts_stopTimerExpiry : Acts s (stopTimerExpiry s) :=
  (acts_setHandset s (h := { s.handset with stopHeld := true }) rfl).trans (acts_issueOrder _ _)

theorem acts_takeResumePending : Acts s (takeResumePending s) :=
  acts_if s
    (fun _ => (acts_setHandset s (h := { s.handset with resumePending := false }) rfl).trans (acts_resumeGesture _))
    fun _ => .refl

end Sys2Proof.Machine
end

section
/-!
PROOFS. The writes of the Narrow Unit, and the one place where the geometry decides: a narrow ahead is claimed while no relation
is held with another, for one that was neither left nor far back would lie too near (R132, R137).
-/

namespace Sys2Proof.Machine

variable (s : State)

/-! ### Records and narrows by their index -/

section
variable {s}

theorem State.RecordMovedTo.refl (r : NarrowRecord) : s.RecordMovedTo r r :=
  ⟨⟨id, fun _ _ h => h⟩, rfl, fun _ => rfl⟩

theorem forall₂_set {α : Type} {R : α → α → Prop} (hrefl : ∀ x, R x x) {l : List α} {i : Nat} {x : α}
    (h : ∀ y, l[i]? = some y → R y x) : List.Forall₂ R l (l.set i x) := by
  rw [List.forall₂_iff_get]
  refine ⟨by simp, fun k hk hk' => ?_⟩
  by_cases hik : i = k
  · subst hik
    simpa using h _ (List.getElem?_eq_getElem hk)
  · simpa [List.getElem_set, hik] using hrefl _

theorem narrowRecord_eq_of_getElem? {i : Nat} {r : NarrowRecord} (h : s.narrow.records[i]? = some r) :
    s.narrowRecord i = r := by
  simp [State.narrowRecord, NarrowUnit.record, List.getD, h]

theorem narrowRecord_of_length_le {i : Nat} (h : s.narrow.records.length ≤ i) : s.narrowRecord i = .idle := by
  simp [State.narrowRecord, NarrowUnit.record, List.getD, h]

theorem lt_length_of_relation_ne_none {i : Nat} (h : (s.narrowRecord i).relation ≠ .none) :
    i < s.narrow.records.length := by
  by_contra hle
  exact h (by rw [narrowRecord_of_length_le (not_lt.1 hle)]; rfl)

theorem getElem?_narrowRecord {i : Nat} (h : i < s.narrow.records.length) :
    s.narrow.records[i]? = some (s.narrowRecord i) := by
  simp [State.narrowRecord, NarrowUnit.record, List.getD, h]

theorem findNarrow_eq_some {p : NarrowRecord → Bool} {i : Nat} (h : s.findNarrow p = some i) :
    i < s.narrow.records.length ∧ p (s.narrowRecord i) = true := by
  obtain ⟨r, hr, hp⟩ := List.findIdx?_eq_some_iff_getElem.1 h
  refine ⟨r, ?_⟩
  rw [narrowRecord_eq_of_getElem? (List.getElem?_eq_getElem r)]
  exact hr

theorem lt_narrows_of_enabled {c : WorkingConfig} {i : Nat} (h : (c.enabledNarrow i).isSome = true) :
    i < c.narrows.length := by
  by_contra hle
  simp [WorkingConfig.enabledNarrow, List.getElem?_eq_none (not_lt.1 hle)] at h

theorem enabledNarrow_eq_some_iff {c : WorkingConfig} {i : Nat} {e : NarrowEntry} :
    c.enabledNarrow i = some e ↔ c.narrows[i]? = some e ∧ e.disabled = none := by
  simp [WorkingConfig.enabledNarrow, Option.filter_eq_some_iff]

/-- A configuration that has a narrow is held. -/
theorem config_ne_none_of_lt_narrows {i : Nat} (h : i < s.cfg.narrows.length) : s.config ≠ none := by
  intro hnone
  simp [State.cfg, hnone, WorkingConfig.blank] at h

theorem acts_setNarrowRecord {i : Nat} {r : NarrowRecord} (h : s.RecordMovedTo (s.narrowRecord i) r) :
    Acts s (s.setNarrowRecord i r) :=
  acts_narrow ⟨forall₂_set State.RecordMovedTo.refl fun _ hy => narrowRecord_eq_of_getElem? hy ▸ h, id⟩

theorem acts_setQueue {q : List AnswerEntry} (h : AnswersWithin s.narrow.queue → AnswersWithin q) :
    Acts s (s.setNarrow { s.narrow with queue := q }) :=
  acts_narrow ⟨List.forall₂_same.2 fun _ _ => .refl _, h⟩

end

@[simp] theorem setNarrowRecord_length (i : Nat) (r : NarrowRecord) :
    (s.setNarrowRecord i r).narrow.records.length = s.narrow.records.length := by
  simp [State.setNarrowRecord]

theorem narrowRecord_setNarrowRecord_self {i : Nat} (r : NarrowRecord) (h : i < s.narrow.records.length) :
    (s.setNarrowRecord i r).narrowRecord i = r :=
  narrowRecord_eq_of_getElem? (by simp [State.setNarrowRecord, h])

theorem narrowRecord_setNarrowRecord_ne {i j : Nat} (r : NarrowRecord) (h : i ≠ j) :
    (s.setNarrowRecord i r).narrowRecord j = s.narrowRecord j := by
  simp [State.narrowRecord, NarrowUnit.record, State.setNarrowRecord, List.getElem?_set_ne h]

/-! ### Ask rounds and wait ages -/

theorem acts_askDue {i : Nat} (h : s.askTime = some i) : Acts s (askDue i s) := by
  obtain ⟨-, hask⟩ := findNarrow_eq_some h
  have hne : (s.narrowRecord i).ask ≠ .none := by
    intro hnone
    simp [NarrowRecord.askTimeReached, hnone] at hask
  refine acts_setNarrowRecord ⟨⟨id, fun _ _ hasks => ?_⟩, rfl, fun _ => rfl⟩
  obtain ⟨hseven, hleft⟩ := hasks
  exact ⟨hseven, fun _ => hleft hne⟩

theorem acts_scheduleAsk {i : Nat} {r : NarrowRecord} (hrun : s.mode ≠ .lockout)
    (hrel : r.relation = (s.narrowRecord i).relation) (hage : r.waitAge = (s.narrowRecord i).waitAge)
    (hasks : (s.narrowRecord i).AsksWithin s.cfg.nAsk → s.cfg.nAsk ≤ 7 → r.asksSent < s.cfg.nAsk) :
    Acts s (scheduleAsk i r s) := by
  have hdrawn : Acts s s.afterDraw := acts_air ⟨.inr rfl, .inl rfl, le_rfl⟩
  refine hdrawn.trans (acts_setNarrowRecord ⟨⟨fun h => (hage.symm ▸ h : r.waitAge ≤ 255), fun hseven _ h => ?_⟩, hrel, fun h => absurd h hrun⟩)
  exact ⟨(hasks h hseven).le.trans hseven, fun _ => hasks h hseven⟩

theorem askGranted_ask {r : NarrowRecord} (h : r.askGranted = true) : r.ask = .outstanding true ∧ r.inRound = true := by
  simpa [NarrowRecord.askGranted] using h

theorem acts_askHandedReport : Acts s (askHandedReport s) := by
  unfold askHandedReport
  cases hfind : s.findNarrow NarrowRecord.askGranted with
  | none => exact .refl
  | some i =>
    obtain ⟨-, hgranted⟩ := findNarrow_eq_some hfind
    have hne : (s.narrowRecord i).ask ≠ .none := by simp [(askGranted_ask hgranted).1]
    refine acts_if s (fun _ => .refl) fun hrun => acts_if s (fun hless => ?_) fun _ => ?_
    · exact acts_scheduleAsk s hrun rfl rfl fun _ _ => hless
    · refine acts_setNarrowRecord ⟨⟨id, fun hseven _ hasks => ⟨?_, nofun⟩⟩, rfl, fun h => absurd h hrun⟩
      have := hasks.2 hne
      show (s.narrowRecord i).asksSent + 1 ≤ 7
      omega

theorem acts_askDroppedReport : Acts s (askDroppedReport s) := by
  unfold askDroppedReport
  cases hfind : s.findNarrow NarrowRecord.askGranted with
  | none => exact .refl
  | some i =>
    obtain ⟨-, hgranted⟩ := findNarrow_eq_some hfind
    have hne : (s.narrowRecord i).ask ≠ .none := by simp [(askGranted_ask hgranted).1]
    exact acts_if s (fun _ => .refl) fun hrun => acts_scheduleAsk s hrun rfl rfl fun h _ => h.2 hne

theorem acts_grantAsk : Acts s (s.setNarrow { s.narrow with records := grantAsk s.narrow.records }) := by
  refine acts_narrow ⟨?_, id⟩
  refine List.forall₂_map_right_iff.2 (List.forall₂_same.2 fun r _ => ?_)
  split
  · rename_i hwaits
    have hne : r.ask ≠ .none := by
      intro hnone
      simp [NarrowRecord.askWaits, hnone] at hwaits
    exact ⟨⟨id, fun _ _ hasks => ⟨hasks.1, fun _ => hasks.2 hne⟩⟩, rfl, fun _ => rfl⟩
  · exact .refl r

theorem acts_waitAgeExpiry : Acts s (waitAgeExpiry s) := by
  refine acts_if s (fun _ => acts_narrow ⟨List.forall₂_same.2 fun _ _ => .refl _, id⟩) fun hrun => acts_narrow ⟨?_, id⟩
  refine List.forall₂_map_right_iff.2 (List.forall₂_same.2 fun r _ => ?_)
  split
  · exact ⟨⟨fun _ => min_le_right _ _, fun _ _ h => h⟩, rfl, fun h => absurd h hrun⟩
  · exact .refl r

theorem acts_deferPhase (i : Nat) (hrun : s.mode ≠ .lockout) : Acts s (deferPhase i s) :=
  acts_setNarrowRecord ⟨⟨id, fun _ _ h => ⟨h.1, nofun⟩⟩, rfl, fun h => absurd h hrun⟩

theorem acts_contestPhase {i : Nat} (hrun : s.mode ≠ .lockout) (hi : i < s.cfg.narrows.length) :
    Acts s (contestPhase i s) := by
  refine acts_setNarrowRecord ⟨⟨id, fun _ htwo _ => ⟨Nat.zero_le _, fun _ => ?_⟩⟩, rfl, fun h => absurd h hrun⟩
  exact Nat.lt_of_lt_of_le Nat.zero_lt_two (htwo (config_ne_none_of_lt_narrows hi))

/-! ### The answer queue -/

theorem map_key_eq (q : List AnswerEntry) (f : AnswerEntry → AnswerEntry)
    (hf : ∀ e, (f e).askerId = e.askerId ∧ (f e).narrow = e.narrow) :
    (q.map f).map (fun e => (e.askerId, e.narrow)) = q.map (fun e => (e.askerId, e.narrow)) := by
  simp [hf]

/-- Entries rewritten without a change of asker or narrow keep the queue's bounds. -/
theorem AnswersWithin.map {q : List AnswerEntry} {f : AnswerEntry → AnswerEntry}
    (hf : ∀ e, (f e).askerId = e.askerId ∧ (f e).narrow = e.narrow) (h : AnswersWithin q) : AnswersWithin (q.map f) := by
  obtain ⟨hlen, hdiff⟩ := h
  exact ⟨by simpa using hlen, (map_key_eq q f hf).symm ▸ hdiff⟩

theorem AnswersWithin.sublist {p q : List AnswerEntry} (hsub : p.Sublist q) (h : AnswersWithin q) : AnswersWithin p :=
  ⟨hsub.length_le.trans h.1, (hsub.map _).nodup h.2⟩

theorem AnswersWithin.queueAnswer {q : List AnswerEntry} (e : AnswerEntry) (h : AnswersWithin q) :
    AnswersWithin (queueAnswer q e) := by
  refine ⟨queueAnswer_length q e h.1, ?_⟩
  unfold Machine.queueAnswer
  split
  · refine (AnswersWithin.map (fun x => ?_) h).2
    split <;> simp
  split
  · rename_i hnone _
    simp only [Bool.not_eq_true, List.any_eq_false, Bool.and_eq_true, decide_eq_true_eq, not_and] at hnone
    rw [List.map_append, List.nodup_append]
    refine ⟨h.2, by simp, ?_⟩
    simp only [List.mem_map, List.map_cons, List.map_nil, List.mem_singleton]
    rintro _ ⟨x, hx, rfl⟩ _ rfl hkey
    obtain ⟨hid, hnarrow⟩ := Prod.mk.injEq _ _ _ _ ▸ hkey
    exact hnone x hx hid hnarrow
  · exact h.2

theorem takeInHand_key (q : List AnswerEntry) :
    (takeInHand q).map (fun e => (e.askerId, e.narrow)) = q.map (fun e => (e.askerId, e.narrow)) := by
  induction q with
  | nil => rfl
  | cons e es ih =>
    simp only [takeInHand]
    split <;> simp [ih]

theorem AnswersWithin.takeInHand {q : List AnswerEntry} (h : AnswersWithin q) : AnswersWithin (takeInHand q) := by
  have hkey := takeInHand_key q
  refine ⟨?_, hkey.symm ▸ h.2⟩
  have hlen := congrArg List.length hkey
  simp only [List.length_map] at hlen
  exact hlen ▸ h.1

theorem acts_takeAnswer (e : AnswerEntry) : Acts s (takeAnswer e s) := by
  have hqueued : Acts s (s.setNarrow { s.narrow with queue := queueAnswer s.narrow.queue e }) :=
    acts_setQueue fun h => h.queueAnswer e
  refine acts_if s (fun _ => hqueued.trans (acts_counters ?_)) fun _ => hqueued
  simp [Counters.CountedTo, Counters.values]

theorem acts_expireAnswer : Acts s (expireAnswer s) := by
  have hremoved : Acts s
      (s.setNarrow { s.narrow with queue := s.narrow.queue.eraseP (fun e => e.expired s.time s.cfg.wAns) }) :=
    acts_setQueue fun h => h.sublist List.eraseP_sublist
  exact hremoved.trans (acts_counters (by simp [Counters.CountedTo, Counters.values]))

/-! ### Arrivals -/

variable {s} in
theorem acts_enterWaiting {i : Nat} (hrun : s.mode ≠ .lockout) (h : (s.narrowRecord i).relation ≠ .none) :
    Acts s (enterWaiting i s) :=
  (HoldMove.wait i hrun fun _ _ => .inl h).acts

theorem acts_askArrival (f : AskFrame) (stamp : Time) : Acts s (askArrival f stamp s) := by
  unfold askArrival
  dsimp only
  split
  · exact .refl
  split
  · exact .refl
  · exact acts_takeAnswer s _
  · rename_i hrel
    refine acts_if s (fun _ => acts_takeAnswer s _) fun _ => acts_if s (fun _ => .refl) fun hrun => ?_
    exact acts_enterWaiting hrun (by simp [hrel])
  · refine acts_if s (fun _ => acts_takeAnswer s _) fun _ => acts_if s (fun _ => .refl) fun hrun => ?_
    exact acts_if s (fun _ => acts_deferPhase s _ hrun) fun _ => .refl

theorem acts_countLateObjection : Acts s (countLateObjection s) :=
  acts_counters (by simp [Counters.CountedTo, Counters.values])

theorem acts_objectArrival (f : ObjectFrame) (stamp : Time) : Acts s (objectArrival f stamp s) := by
  unfold objectArrival
  dsimp only
  split
  · exact .refl
  split
  · exact .refl
  rename_i hconcerned
  have hrun : s.mode ≠ .lockout := fun h => hconcerned (.inr (.inr h))
  split
  · exact .refl
  · rename_i hrel
    exact acts_enterWaiting hrun (by simp [hrel])
  · exact acts_if s (fun _ => acts_deferPhase s _ hrun) fun _ => .refl
  · rename_i hrel
    have hwait : Acts s (enterWaiting f.narrow s) := acts_enterWaiting hrun (by simp [hrel])
    exact acts_if s (fun _ => acts_countLateObjection s) fun _ => acts_if s
      (fun _ => acts_if s (fun _ => acts_countLateObjection s) fun _ => hwait) fun _ => .refl

theorem acts_noteConflict (i : Nat) : Acts s (noteConflict i s) := by
  have hseen : Acts s (s.setNarrowRecord i { s.narrowRecord i with conflictSeen := true }) :=
    acts_setNarrowRecord ⟨⟨id, fun _ _ h => h⟩, rfl, fun _ => rfl⟩
  exact acts_if s (fun _ => .refl) fun _ =>
    hseen.trans (acts_counters (by simp [Counters.CountedTo, Counters.values]))

theorem acts_doubleHolderTest (p : PeerRecord) : Acts s (doubleHolderTest p s) := by
  unfold doubleHolderTest
  split
  · exact .refl
  split
  · exact .refl
  dsimp only
  split
  · exact .refl
  rename_i hcontested
  obtain ⟨-, -, hholding, hrun⟩ : _ ∧ _ ∧ _ ∧ _ := by simpa only [not_or, not_not] using hcontested
  refine acts_if s (fun _ => acts_enterWaiting hrun ?_) fun _ => acts_if s (fun _ => acts_noteConflict s _) fun _ => .refl
  simp [hholding]

end Sys2Proof.Machine
end

section
/-!
PROOFS. The writes of the Air Port's reception and transmission and of the Peer Table. What a frame that passes its checks
gives the table lies in the ranges of R47 and does not bear the own id (R27, R28).
-/

namespace Sys2Proof.Machine

variable (s : State)

/-! ### What an accepted frame holds (R22, R27) -/

theorem frameByte_lt (f : List Byte) (i : Nat) : frameByte f i < 256 := (f.getD i 0).isLt

theorem frameWord_lt (f : List Byte) (i : Nat) : frameWord f i < 65536 := by
  have h1 := (f.getD i 0).isLt
  have h2 := (f.getD (i + 1) 0).isLt
  unfold frameWord ofTwoBytes
  omega

theorem Mode.ofCode_ne_start {n : Nat} {m : Mode} (h : Mode.ofCode n = some m) : m ≠ .start := by
  rintro rfl
  unfold Mode.ofCode at h
  split_ifs at h <;> simp at h

/-- A frame that is accepted comes from another station, 1 to 30, and is what its bytes read as (R27). -/
theorem checkFrame_accepted {ownId : Nat} {malformed : Bool} {f : List Byte} {frame : Frame}
    (h : checkFrame ownId malformed f = .accepted frame) :
    readFrame f = some frame ∧ frameSender f ≠ ownId ∧ frameSender f ≠ 0 ∧ frameSender f ≠ 31 := by
  unfold checkFrame at h
  split at h
  · simp at h
  split at h
  · simp at h
  split at h
  · simp at h
  cases hread : readFrame f with
  | none => simp [hread] at h
  | some frame' =>
    simp only [hread] at h
    split at h
    · simp at h
    · rename_i hown
      have hvalid : ¬(frameSender f = 0 ∨ frameSender f = 31) := by
        intro hbad
        simp [readFrame, hbad] at hread
      rw [not_or] at hvalid
      simp only [FrameFate.accepted.injEq] at h
      exact ⟨by rw [h], hown, hvalid⟩

theorem readFrame_eq_beacon {f : List Byte} {b : Beacon} (h : readFrame f = some (.beacon b)) : readBeacon f = some b := by
  unfold readFrame at h
  split at h
  · simp at h
  split at h
  · simpa using h
  split at h <;> simp at h

/-- The record of an accepted BEACON lies in the ranges of R47, and is another station's (R28). -/
theorem recordOf_sound {ownId : Nat} {malformed : Bool} {f : List Byte} {b : Beacon} (stamp : Time)
    (h : checkFrame ownId malformed f = .accepted (.beacon b)) : (recordOf b stamp).Sound ∧ b.sender ≠ ownId := by
  obtain ⟨hread, hown, hzero, hthirtyone⟩ := checkFrame_accepted h
  have hbeacon := readFrame_eq_beacon hread
  have hsender : frameSender f < 32 := by
    have := frameByte_lt f 1
    unfold frameSender
    omega
  unfold readBeacon at hbeacon
  split at hbeacon
  case h_2 => simp at hbeacon
  case h_1 mode code hmode hcode =>
  obtain rfl := Option.some.inj hbeacon
  refine ⟨⟨?id1, ?id2, ?lead, ?position, ?speed, ?rig, Mode.ofCode_ne_start hmode, ?convoy, ?index, ?period1, ?period2,
    ?narrowPart, ?orderPart⟩, hown⟩
  case id1 => exact Nat.one_le_iff_ne_zero.2 hzero
  case id2 => exact (show frameSender f ≤ 30 by omega)
  case lead => exact Nat.le_of_lt_succ (frameByte_lt f 3)
  case position => exact Nat.le_of_lt_succ (frameWord_lt f 4)
  case speed => exact Nat.le_of_lt_succ (Nat.mod_lt _ (by decide))
  case rig => exact Nat.le_of_lt_succ (Nat.mod_lt _ (by decide))
  case convoy =>
    have := frameByte_lt f 10
    show frameByte f 10 / 8 ≤ 31
    omega
  case index =>
    have := frameWord_lt f 8
    show frameWord f 8 / 4096 ≤ 15
    omega
  case period1 =>
    show 100 ≤ 10 * clampNat 10 200 (frameByte f 14)
    unfold clampNat
    omega
  case period2 =>
    show 10 * clampNat 10 200 (frameByte f 14) ≤ 2000
    unfold clampNat
    omega
  case narrowPart =>
    intro p hp
    simp only [recordOf, Option.mem_def] at hp
    split at hp
    · simp at hp
    · rename_i hrel
      obtain rfl := Option.some.inj hp
      exact ⟨Nat.le_of_lt_succ (Nat.mod_lt _ (by decide)), hrel, Nat.le_of_lt_succ (frameByte_lt f 12)⟩
  case orderPart =>
    intro p hp
    simp only [recordOf, Option.mem_def] at hp
    split at hp
    · simp at hp
    · rename_i hrel
      obtain rfl := Option.some.inj hp
      have := frameByte_lt f 13
      exact ⟨hrel, Nat.le_of_lt_succ (Nat.mod_lt _ (by decide)), (show frameByte f 13 / 16 ≤ 15 by omega)⟩

/-! ### The record write notice (R59) -/

theorem acts_linkHeard (p : PeerRecord) : Acts s (linkHeard p s) :=
  acts_if s
    (fun _ => (acts_setSpacing s (u := { s.spacing with lostId := 0 }) rfl rfl rfl).trans
      (HoldMove.release .linkLoss (by decide)).acts)
    fun _ => .refl

theorem acts_writeNotice {p : PeerRecord} (hp : p.Sound) : Acts s (writeNotice p s) := by
  have hcounted : Acts s (s.setFreeCount (s.freeCount + 1)) := Act.count.acts
  have hadopt (t : State) : Acts t (adoptionTest p t) := acts_adoptionTest t hp
  have hhold (t : State) : Acts t (doubleHolderTest p t) := acts_doubleHolderTest t p
  have hlink (t : State) : Acts t (linkHeard p t) := acts_linkHeard t p
  refine hcounted.trans ?_
  rcases writeNotice_cases s p with h | h | h | h | h | h <;> rw [h]
  · exact (hlink _).trans ((hhold _).trans (hadopt _))
  · exact (hlink _).trans ((hadopt _).trans (hhold _))
  · exact (hhold _).trans ((hlink _).trans (hadopt _))
  · exact (hhold _).trans ((hadopt _).trans (hlink _))
  · exact (hadopt _).trans ((hlink _).trans (hhold _))
  · exact (hadopt _).trans ((hhold _).trans (hlink _))

/-! ### The Peer Table -/

theorem removeId_sublist (id : Nat) (l : List PeerRecord) : (removeId id l).Sublist l := List.filter_sublist

theorem ne_of_mem_removeId {id : Nat} {l : List PeerRecord} {r : PeerRecord} (h : r ∈ removeId id l) : r.id ≠ id := by
  simpa using (List.mem_filter.1 h).2

theorem removeId_length_lt {v : PeerRecord} {l : List PeerRecord} (h : v ∈ l) : (removeId v.id l).length < l.length :=
  List.length_filter_lt_length_iff_exists.2 ⟨v, h, by simp⟩

theorem ne_of_findId_eq_none {id : Nat} {l : List PeerRecord} (h : findId id l = none) {r : PeerRecord} (hr : r ∈ l) :
    r.id ≠ id := by
  simpa using List.find?_eq_none.1 h r hr

variable {s} in
theorem acts_writeRecord {p : PeerRecord} {rest : List PeerRecord} (hsub : rest.Sublist s.peers.records)
    (hlen : rest.length < 16 ∨ rest.length < s.peers.records.length) (hnew : ∀ r ∈ rest, r.id ≠ p.id)
    (hother : p.id ≠ s.ownId) (hsound : p.Sound) (hload : s.loading = false) : Acts s (writeRecord p rest s) := by
  have hwritten : Acts s (s.setRecords (insertRecord p rest)) :=
    (Act.peers { s.peers with records := insertRecord p rest }
      (.inr ⟨p, rest, rfl, hsub, hlen, hnew, hother, hsound, hload⟩)).acts
  exact hwritten.trans (acts_writeNotice _ hsound)

variable {s} in
theorem acts_weighNewcomer {p : PeerRecord} (hnew : ∀ r ∈ s.peers.records, r.id ≠ p.id)
    (hother : p.id ≠ s.ownId) (hsound : p.Sound) (hload : s.loading = false) : Acts s (weighNewcomer p s) := by
  unfold weighNewcomer
  split
  · exact .refl
  · rename_i v hv
    refine acts_if s (fun _ => acts_counters (by simp [Counters.CountedTo, Counters.values])) fun _ => ?_
    have hsub := removeId_sublist v.id s.peers.records
    exact acts_writeRecord hsub (.inr (removeId_length_lt (victim_mem s _ v hv))) (fun r hr => hnew r (hsub.subset hr))
      hother hsound hload

variable {s} in
theorem acts_beaconArrival {b : Beacon} {stamp : Time} (hother : b.sender ≠ s.ownId) (hsound : (recordOf b stamp).Sound)
    (hload : s.loading = false) : Acts s (beaconArrival b stamp s) := by
  unfold beaconArrival
  dsimp only
  split
  · rename_i held hfind
    have hsub := removeId_sublist b.sender s.peers.records
    have hheld : held ∈ s.peers.records := List.mem_of_find?_eq_some hfind
    have hid : held.id = b.sender := by simpa using List.find?_some hfind
    refine acts_if s (fun _ => acts_writeRecord hsub (.inr (hid ▸ removeId_length_lt hheld))
      (fun r hr => ne_of_mem_removeId hr) hother hsound hload) fun _ => ?_
    exact acts_counters (by simp [Counters.CountedTo, Counters.values])
  · rename_i hfind
    have hnew (r : PeerRecord) (hr : r ∈ s.peers.records) : r.id ≠ b.sender := ne_of_findId_eq_none hfind hr
    exact acts_if s (fun hroom => acts_writeRecord (List.Sublist.refl _) (.inl hroom) hnew hother hsound hload)
      fun _ => acts_weighNewcomer hnew hother hsound hload

theorem acts_sweep : Acts s (sweep s) :=
  (Act.peers { records := _, sweepTimer := _ } (.inl List.filter_sublist)).acts

/-! ### Reception (section 2.3) -/

theorem acts_countMalformed : Acts s (countMalformed s) :=
  acts_counters (by simp [Counters.CountedTo, Counters.values])

theorem acts_countAbandoned : Acts s (countAbandoned s) :=
  acts_if s (fun _ => .refl) fun _ => acts_countMalformed s

variable {s} in
theorem acts_judgeFrame (f : CompleteFrame) (hload : s.loading = false) : Acts s (judgeFrame f s) := by
  unfold judgeFrame
  split
  · exact acts_countMalformed s
  · exact acts_counters (by simp [Counters.CountedTo, Counters.values])
  · exact acts_counters (by simp [Counters.CountedTo, Counters.values])
  · have hcounted : Acts s (s.setCounters { s.counters with idClash := bump s.counters.idClash }) :=
      acts_counters (by simp [Counters.CountedTo, Counters.values])
    exact hcounted.trans (acts_setAir _ rfl rfl rfl)
  · rename_i frame hcheck
    cases frame with
    | beacon b =>
      obtain ⟨hsound, hother⟩ := recordOf_sound f.stamp hcheck
      exact acts_beaconArrival hother hsound hload
    | ask a => exact acts_askArrival s a f.stamp
    | object o => exact acts_objectArrival s o f.stamp

theorem frameClosed_loading : s.frameClosed.loading = s.loading := by
  rw [frameClosed_frame]
  rfl

theorem acts_frameClosed : Acts s s.frameClosed :=
  startBackoff_closed s ▸ (acts_setReception s .closed).trans (acts_startBackoff _)

theorem acts_receiveFrame : Acts s (receiveFrame s) := by
  rcases receiveFrame_cases s with ⟨f, -, hvalid, h⟩ | ⟨f, -, -, h⟩ | ⟨-, h⟩ <;> rw [h]
  · refine (acts_frameClosed s).trans (acts_judgeFrame f ?_)
    rw [frameClosed_loading]
    exact ((validConfig_eq_true_iff s).1 hvalid).1
  · exact acts_frameClosed s

theorem acts_moduleByte (b : Byte) : Acts s (moduleByte b s) := by
  refine (acts_receiveFrame s).trans ?_
  unfold moduleByte
  dsimp only
  split
  · exact acts_setReception _ _
  · exact acts_if _ (fun _ => acts_setTransmitter _ _) fun _ => .refl

theorem acts_frameTimeout : Acts s (frameTimeout s) :=
  ((acts_setReception s .closed).trans (acts_countAbandoned _)).trans (acts_startBackoff _)

/-! ### Transmission (sections 2.5 to 2.8) -/

@[simp] theorem setTransmitter_counters (x : Transmitter) : (s.setTransmitter x).counters = s.counters := rfl

theorem acts_dropFrame (c : FrameClass) : Acts s (dropFrame c s) := by
  refine (acts_setTransmitter s .idle).trans ?_
  cases c with
  | beacon =>
    refine Relation.ReflTransGen.trans ?_ (acts_scheduleBeacon _ _)
    exact acts_counters (by simp [Counters.CountedTo, Counters.values])
  | ask =>
    refine Relation.ReflTransGen.trans ?_ (acts_askDroppedReport _)
    exact acts_counters (by simp [Counters.CountedTo, Counters.values])
  | object => exact acts_setQueue fun h => h.map fun _ => ⟨rfl, rfl⟩

theorem acts_busyAttempt (c : FrameClass) (n : Nat) : Acts s (busyAttempt c n s) :=
  acts_if s (fun _ => acts_setTransmitter s _) fun _ => acts_dropFrame s c

theorem acts_loseAttempt : Acts s (loseAttempt s) := by
  unfold loseAttempt
  split
  · exact acts_busyAttempt s _ _
  · exact .refl

theorem acts_syncPulse : Acts s (syncPulse s) := by
  refine (acts_receiveFrame s).trans ?_
  have habandoned : Acts (receiveFrame s)
      (if (receiveFrame s).air.reception.isOpen then countAbandoned (receiveFrame s) else receiveFrame s) :=
    acts_if _ (fun _ => acts_countAbandoned _) fun _ => .refl
  exact habandoned.trans ((acts_setReception _ _).trans (acts_loseAttempt _))

theorem acts_busyChange (asserted : Bool) : Acts s (busyChange asserted s) := by
  have hline (b : Bool) : Acts s (s.setAir { s.air with busy := b }) := acts_setAir s rfl rfl rfl
  refine acts_if s (fun _ => .refl) fun _ => acts_if s (fun _ => (hline true).trans ?_) fun _ => (hline false).trans ?_
  · unfold busyAsserted
    dsimp only
    split
    · exact acts_setTransmitter _ _
    · exact acts_loseAttempt _
  · unfold busyCleared
    dsimp only
    split
    · exact (acts_setTransmitter _ _).trans (acts_startBackoff _)
    · exact .refl

theorem acts_busyAttemptTimeout : Acts s (busyAttemptTimeout s) := by
  unfold busyAttemptTimeout
  split
  · exact acts_busyAttempt s _ _
  · exact .refl

theorem acts_takeGrant (c : FrameClass) : Acts s (takeGrant c s) := by
  cases c with
  | beacon => exact acts_setAir s rfl rfl rfl
  | ask => exact acts_grantAsk s
  | object => exact acts_setQueue fun h => h.takeInHand

theorem acts_arbiterGrant : Acts s (arbiterGrant s) := by
  unfold arbiterGrant
  split
  · rename_i c _ hnext
    have hmem : c ∈ s.air.rotation := List.mem_of_find?_eq_some hnext
    have hrotated : Acts s (s.setAir { s.air with rotation := rotate s.air.rotation c }) :=
      acts_air ⟨.inl rfl, .inr ⟨c, hmem, rfl⟩, le_rfl⟩
    have hgranted := hrotated.trans (acts_takeGrant _ c)
    exact (hgranted.trans (acts_setTransmitter _ (.sense c 0 _))).trans (acts_startBackoff _)
  · exact .refl

theorem acts_buildAnswer : Acts s (buildAnswer s) := by
  unfold buildAnswer
  dsimp only
  split
  · exact acts_setTransmitter s _
  · have htaken : Acts s (s.setNarrow { s.narrow with queue := s.narrow.queue.eraseP (fun e => e.inHand) }) :=
      acts_setQueue fun h => h.sublist List.eraseP_sublist
    refine htaken.trans (acts_if _ (fun _ => acts_setTransmitter _ _) fun _ => ?_)
    refine (acts_setTransmitter _ .idle).trans (acts_counters ?_)
    simp [Counters.CountedTo, Counters.values]

theorem acts_buildFrame (c : FrameClass) : Acts s (buildFrame c s) := by
  cases c with
  | beacon =>
    have hmoved : Acts s
        (s.setAir { s.air with sequence := s.air.sequence + 1#8, firstCount := s.air.firstCount - 1 }) :=
      acts_air ⟨.inl rfl, .inl rfl, Nat.sub_le _ _⟩
    exact hmoved.trans (acts_setTransmitter _ _)
  | ask =>
    unfold buildFrame buildAsk
    dsimp only
    split
    · exact acts_setTransmitter s _
    · exact acts_if s (fun _ => acts_setTransmitter s _) fun _ => acts_setTransmitter s _
  | object => exact acts_buildAnswer s

theorem acts_backoffEnd : Acts s (backoffEnd s) := by
  unfold backoffEnd
  split
  · exact acts_buildFrame s _
  · exact .refl

theorem acts_frameHanded : Acts s (frameHanded s) := by
  unfold frameHanded
  split
  · rename_i c bytes _
    refine (acts_setTransmitter s (.send c bytes (some s.time))).trans ?_
    cases c with
    | beacon => exact acts_scheduleBeacon _ _
    | ask => exact acts_askHandedReport _
    | object => exact .refl
  · exact .refl

theorem acts_radioTimeout : Acts s (radioTimeout s) := by
  refine (acts_setTransmitter s .idle).trans (acts_counters ?_)
  simp [Counters.CountedTo, Counters.values]

theorem acts_beaconDue : Acts s (beaconDue s) := acts_setAir s rfl rfl rfl

end Sys2Proof.Machine
end

section
/-!
PROOFS. The writes of the two control steps. The Spacing Unit's step is a chain whatever the station holds; the Narrow Unit's
step changes a relation only where none is held with another narrow, as the spacing of R132 and the drops of R137 leave it.
-/

namespace Sys2Proof.Machine

variable (s : State)

/-! ### What every chain leaves -/

/-- Two states agree in the blocks that no change of the Hold Stack or of a relation touches. -/
structure State.SameOutsideHolds (s t : State) : Prop where
  time : t.time = s.time
  config : t.config = s.config
  loader : t.loader = s.loader
  road : t.road = s.road
  peers : t.peers = s.peers
  handset : t.handset = s.handset
  order : t.order = s.order
  sensors : t.sensors = s.sensors
  lamps : t.lamps = s.lamps
  service : t.service = s.service
  pending : t.pending = s.pending

theorem State.SameOutsideHolds.refl : s.SameOutsideHolds s := ⟨rfl, rfl, rfl, rfl, rfl, rfl, rfl, rfl, rfl, rfl, rfl⟩

variable {s} in
theorem State.SameOutsideHolds.trans {t u : State} (h : s.SameOutsideHolds t) (h' : t.SameOutsideHolds u) :
    s.SameOutsideHolds u :=
  ⟨h'.time.trans h.time, h'.config.trans h.config, h'.loader.trans h.loader, h'.road.trans h.road,
    h'.peers.trans h.peers, h'.handset.trans h.handset, h'.order.trans h.order, h'.sensors.trans h.sensors,
    h'.lamps.trans h.lamps, h'.service.trans h.service, h'.pending.trans h.pending⟩

section
variable {s} {t : State}

theorem setHolds_outside (x : HoldStack) : s.SameOutsideHolds (s.setHolds x) :=
  ⟨rfl, rfl, rfl, rfl, rfl, rfl, rfl, rfl, rfl, rfl, rfl⟩

theorem setDrive_outside (x : DriveUnit) : s.SameOutsideHolds (s.setDrive x) :=
  ⟨rfl, rfl, rfl, rfl, rfl, rfl, rfl, rfl, rfl, rfl, rfl⟩

theorem setSpacing_outside (x : SpacingUnit) : s.SameOutsideHolds (s.setSpacing x) :=
  ⟨rfl, rfl, rfl, rfl, rfl, rfl, rfl, rfl, rfl, rfl, rfl⟩

theorem setAir_outside (x : AirPort) : s.SameOutsideHolds (s.setAir x) :=
  ⟨rfl, rfl, rfl, rfl, rfl, rfl, rfl, rfl, rfl, rfl, rfl⟩

theorem setNarrow_outside (x : NarrowUnit) : s.SameOutsideHolds (s.setNarrow x) :=
  ⟨rfl, rfl, rfl, rfl, rfl, rfl, rfl, rfl, rfl, rfl, rfl⟩

theorem setCounters_outside (x : Counters) : s.SameOutsideHolds (s.setCounters x) :=
  ⟨rfl, rfl, rfl, rfl, rfl, rfl, rfl, rfl, rfl, rfl, rfl⟩

theorem setFreeCount_outside (x : Nat) : s.SameOutsideHolds (s.setFreeCount x) :=
  ⟨rfl, rfl, rfl, rfl, rfl, rfl, rfl, rfl, rfl, rfl, rfl⟩

theorem pushHold_outside (cause : HoldCause) (lost : Option Nat) : s.SameOutsideHolds (pushHold cause lost s) := by
  rw [pushHold_frame]
  exact ((setHolds_outside _).trans (setDrive_outside _)).trans (setAir_outside _)

theorem releaseHold_outside (cause : HoldCause) : s.SameOutsideHolds (releaseHold cause s) := by
  rw [releaseHold_frame]
  exact (((setHolds_outside _).trans (setDrive_outside _)).trans (setSpacing_outside _)).trans (setAir_outside _)

theorem obstructionActivation_outside : s.SameOutsideHolds (obstructionActivation s) := by
  rcases obstructionActivation_cases s with ⟨-, h⟩ | ⟨-, t, ht, h⟩ <;> rw [h]
  · exact .refl s
  · have hcounted : s.SameOutsideHolds (s.setFreeCount (s.freeCount + 1)) := setFreeCount_outside _
    refine State.SameOutsideHolds.trans ?_ (setCounters_outside _)
    rcases ht with rfl | rfl
    · exact ((hcounted.trans (pushHold_outside _ _)).trans (setDrive_outside _)).trans (setSpacing_outside _)
    · exact ((hcounted.trans (setSpacing_outside _)).trans (setDrive_outside _)).trans (pushHold_outside _ _)

theorem beaconNowIf_outside (b : Bool) : s.SameOutsideHolds (beaconNowIf b s) := by
  rw [beaconNowIf_frame]
  exact setAir_outside _

theorem enterWaiting_outside (i : Nat) : s.SameOutsideHolds (enterWaiting i s) := by
  rw [enterWaiting_frame]
  exact (((setNarrow_outside _).trans (setHolds_outside _)).trans (setDrive_outside _)).trans (setAir_outside _)

theorem enterHolding_outside (i : Nat) (inherited : Bool) : s.SameOutsideHolds (enterHolding i inherited s) := by
  rw [enterHolding_frame]
  exact ((((setNarrow_outside _).trans (setHolds_outside _)).trans (setDrive_outside _)).trans
    (setSpacing_outside _)).trans (setAir_outside _)

theorem enterAsking_outside (i : Nat) : s.SameOutsideHolds (enterAsking i s) :=
  (setNarrow_outside _).trans (setAir_outside _)

theorem dropRelation_outside (i : Nat) : s.SameOutsideHolds (dropRelation i s) := by
  unfold dropRelation releaseWaitIf
  dsimp only
  split
  · exact .refl s
  split
  · exact ((setNarrow_outside _).trans (releaseHold_outside _)).trans (beaconNowIf_outside _)
  · exact (setNarrow_outside _).trans (beaconNowIf_outside _)

theorem HoldMove.outside (h : HoldMove s t) : s.SameOutsideHolds t := by
  cases h with
  | push cause lost => exact pushHold_outside cause lost
  | release cause => exact releaseHold_outside cause
  | activate => exact obstructionActivation_outside
  | wait i => exact enterWaiting_outside i
  | take i inherited => exact enterHolding_outside i inherited
  | claim i => exact enterAsking_outside i
  | drop i => exact dropRelation_outside i

theorem Act.config (h : Act s t) : t.config = s.config := by
  cases h with
  | hold t h => exact h.outside.config
  | _ => rfl

theorem Act.cfg (h : Act s t) : t.cfg = s.cfg := by rw [State.cfg, State.cfg, h.config]

theorem Act.loading (h : Act s t) : t.loading = s.loading := by
  cases h with
  | hold t h => rw [State.loading, State.loading, h.outside.loader]
  | loader x hold hnew => simp [State.loading, hold, hnew]
  | _ => rfl

theorem Act.time (h : Act s t) : t.time = s.time := by
  cases h with
  | hold t h => exact h.outside.time
  | _ => rfl

theorem Act.pending (h : Act s t) : t.pending = s.pending := by
  cases h with
  | hold t h => exact h.outside.pending
  | _ => rfl

/-- What every write leaves, a chain leaves. -/
theorem Acts.keeps {α : Type} (f : State → α) (hf : ∀ {s t}, Act s t → f t = f s) (h : Acts s t) : f t = f s := by
  induction h with
  | refl => rfl
  | tail _ hlast ih => exact (hf hlast).trans ih

/-- What every write keeps, a chain keeps. -/
theorem Acts.invariant {P : State → Prop} (hP : ∀ {s t}, Act s t → P s → P t) (h : Acts s t) (hs : P s) : P t := by
  induction h with
  | refl => exact hs
  | tail _ hlast ih => exact hP hlast ih

theorem Acts.config (h : Acts s t) : t.config = s.config := h.keeps _ Act.config

theorem Acts.cfg (h : Acts s t) : t.cfg = s.cfg := h.keeps _ Act.cfg

theorem Acts.loading (h : Acts s t) : t.loading = s.loading := h.keeps _ Act.loading

end

/-! ### The Spacing Unit's step (R66) -/

theorem acts_takeSample : Acts s (takeSample s) := acts_setAir s rfl rfl rfl

variable {s} in
theorem acts_setMembership {u : SpacingUnit} (h : s.SpacingMovedTo u) : Acts s (s.setMembership u) :=
  (acts_spacing h).trans (acts_noteModeChange _ _)

variable {s} in
/-- Any change of the Spacing Unit that makes the station HEAD of its own convoy, and leaves V_ref. -/
theorem State.SpacingMovedTo.alone {u : SpacingUnit} (hm : u.memberIndex = 0) (hc : u.convoyId = s.ownId)
    (hv : u.vRef = s.spacing.vRef) : s.SpacingMovedTo u :=
  ⟨.inr (.inl ⟨hm, hc⟩), fun h => hv ▸ h, fun _ => .inl hv⟩

theorem joinable_iff (r : PeerRecord) :
    s.joinable r = true ↔ (r.mode = .head ∨ r.mode = .follow ∨ r.mode = .wait ∨ r.mode = .halt) ∧
      r.memberIndex < 15 ∧ 1 ≤ r.convoyId ∧ r.convoyId ≤ 30 ∧ r.convoyId ≠ s.ownId := by
  simp [State.joinable, and_assoc, or_assoc]

variable {s} in
/-- Any change of the Spacing Unit that follows a joinable record, and leaves V_ref (R72, R73). -/
theorem State.SpacingMovedTo.behind {u : SpacingUnit} {r : PeerRecord} (hr : s.joinable r = true)
    (hm : u.memberIndex = r.memberIndex + 1) (hc : u.convoyId = r.convoyId) (hv : u.vRef = s.spacing.vRef) :
    s.SpacingMovedTo u := by
  obtain ⟨-, hindex, -, -, hown⟩ := (joinable_iff s r).1 hr
  exact ⟨.inr (.inr ⟨by omega, by omega, hc ▸ hown⟩), fun h => hv ▸ h, fun _ => .inl hv⟩

theorem acts_takeTurn : Acts s (takeTurn s) := by
  refine acts_if s (fun _ => ?_) fun _ => .refl
  have hroad : Acts s (s.setRoad { s.road with turnSpacing := false }) := acts_road ⟨.inl rfl, .inl rfl⟩
  refine hroad.trans (Relation.ReflTransGen.trans (b := State.setSpacing _ _) (acts_spacing ?_) (acts_noteModeChange _ _))
  exact .alone rfl rfl rfl

theorem acts_selectPredecessor (sel : Option PeerRecord) : Acts s (selectPredecessor sel s) :=
  acts_setSpacing s rfl rfl rfl

theorem acts_linkLossCheck (sel : Option PeerRecord) : Acts s (linkLossCheck sel s) := by
  cases sel with
  | none => exact .refl
  | some r =>
    refine acts_if s (fun _ => ?_) fun _ => .refl
    exact (acts_setSpacing s (u := { s.spacing with lostId := r.id }) rfl rfl rfl).trans
      (HoldMove.push .linkLoss (some r.id) (by decide) (by decide)).acts

variable {s} in
theorem acts_joinBehind {r : PeerRecord} {u : SpacingUnit} (hr : s.joinable r = true) (hv : u.vRef = s.spacing.vRef) :
    Acts s (joinBehind r u s) :=
  Relation.ReflTransGen.trans
    (b := s.setMembership
      { u with role := .follow, convoyId := r.convoyId, memberIndex := r.memberIndex + 1, splitTimer := none })
    (acts_setMembership (.behind hr rfl rfl hv)) (acts_joinNotice _ _)

theorem acts_splitOff : Acts s (splitOff s) := acts_setMembership (.alone rfl rfl rfl)

variable {s} in
theorem acts_updateMembership {r : PeerRecord} (splitTimer : Running) (hr : s.joinable r = true) :
    Acts s (updateMembership r splitTimer s) := by
  have hmoved : Acts s (s.setSpacing
      { s.spacing with convoyId := r.convoyId, memberIndex := r.memberIndex + 1, splitTimer := splitTimer }) :=
    acts_spacing (.behind hr rfl rfl rfl)
  exact acts_if _ (fun _ => hmoved) fun _ => hmoved.trans (acts_joinNotice _ _)

theorem acts_headMembership (sel : Option PeerRecord) : Acts s (headMembership sel s) := by
  cases sel with
  | none => exact .refl
  | some r => exact acts_if s (fun h => acts_joinBehind h.1 rfl) fun _ => .refl

theorem acts_followMembership (sel : Option PeerRecord) : Acts s (followMembership sel s) := by
  cases sel with
  | none => exact acts_splitOff s
  | some r =>
    refine acts_if s (fun _ => acts_splitOff s) fun hr => ?_
    have hupdate (timer : Running) : Acts s (updateMembership r timer s) :=
      acts_updateMembership timer (by simpa using hr)
    exact acts_if s (fun _ => hupdate _) fun _ => acts_if s (fun _ => hupdate _) fun _ =>
      acts_if s (fun _ => acts_splitOff s) fun _ => hupdate _

theorem acts_runningMembership (sel : Option PeerRecord) (turned : Bool) : Acts s (runningMembership sel turned s) := by
  unfold runningMembership
  cases s.spacing.role with
  | head => exact acts_if s (fun _ => .refl) fun _ => acts_headMembership s sel
  | follow => exact acts_if s (fun _ => .refl) fun _ => acts_followMembership s sel
  | parked => exact .refl

theorem acts_wakeToHead : Acts s (wakeToHead s) := acts_setMembership (.alone rfl rfl rfl)

theorem acts_park : Acts s (park s) := acts_setMembership (.alone rfl rfl rfl)

theorem acts_parkedMembership (sel : Option PeerRecord) (auto turned : Bool) :
    Acts s (parkedMembership sel auto turned s) := by
  have hstay : Acts s (s.setSpacing { s.spacing with wakeTimer := s.nextWakeTimer }) := acts_setSpacing s rfl rfl rfl
  refine acts_if s (fun _ => hstay) fun _ => ?_
  cases hwaker : s.waker sel with
  | some r =>
    obtain ⟨-, hwoken⟩ := Option.filter_eq_some_iff.1 hwaker
    have hr : s.joinable r = true := by
      simp only [State.wokenBy, Bool.and_eq_true] at hwoken
      exact hwoken.1.1
    exact acts_joinBehind hr rfl
  | none =>
    exact acts_if s (fun _ => acts_wakeToHead s) fun _ => acts_if s (fun _ => acts_wakeToHead s) fun _ => hstay

theorem acts_membershipStage (sel : Option PeerRecord) (turned : Bool) : Acts s (membershipStage sel turned s) := by
  have hauto : Acts s (s.setSpacing { s.spacing with autoEntry := false }) := acts_setSpacing s rfl rfl rfl
  have htimer (t : State) (timer : Running) : Acts t (t.setSpacing { t.spacing with parkTimer := timer }) :=
    acts_setSpacing t rfl rfl rfl
  refine hauto.trans ?_
  unfold membershipStage
  dsimp only
  split
  iterate 3 exact acts_setSpacing _ rfl rfl rfl
  iterate 2 exact acts_if _ (fun _ => acts_park _) fun _ => (htimer _ _).trans (acts_runningMembership _ sel turned)
  · exact (htimer _ none).trans
      (acts_if _ (fun _ => acts_parkedMembership _ sel _ turned) fun _ => acts_runningMembership _ sel turned)
  · exact acts_parkedMembership _ sel _ turned

theorem speedCap_le : s.speedCap ≤ s.cfg.vMax := by
  unfold State.speedCap
  dsimp only
  split <;> omega

theorem target_le (sel : Option PeerRecord) : s.target sel ≤ s.cfg.vMax := by
  have hcap := speedCap_le s
  unfold State.target
  split
  · omega
  unfold State.computedTarget
  dsimp only
  split <;> split <;> omega

/-- V_ref stays within V_max (R84, R96). -/
theorem nextVRef_le (sel : Option PeerRecord) (h : s.spacing.vRef ≤ s.cfg.vMax) : s.nextVRef sel ≤ s.cfg.vMax := by
  have htarget := target_le s sel
  unfold State.nextVRef
  split
  · omega
  · unfold rateLimited clampInt
    omega

variable {s} in
theorem acts_referenceStage (sel : Option PeerRecord) (hload : s.loading = false) : Acts s (referenceStage sel s) := by
  have hrise : Acts s (closeInRise s) :=
    Relation.ReflTransGen.trans (acts_counters (by simp [Counters.CountedTo, Counters.values])) (acts_kill _)
  have hrisen : Acts s (if s.closeInRises sel then closeInRise s else s) := acts_if s (fun _ => hrise) fun _ => .refl
  refine hrisen.trans ?_
  unfold referenceStage
  dsimp only
  have hspacing : (if s.closeInRises sel then closeInRise s else s).spacing = s.spacing := by split <;> rfl
  refine acts_spacing ⟨.inl ⟨rfl, rfl⟩, ?_, ?_⟩
  · rw [hspacing, hrisen.cfg]
    exact nextVRef_le s sel
  · rw [hrisen.loading, hload]
    simp

variable {s} in
theorem acts_spacingStages (hload : s.loading = false) : Acts s (spacingStages s) := by
  have hbefore : Acts s (membershipStage (takeTurn s).selected s.road.turnSpacing
      (linkLossCheck (takeTurn s).selected (selectPredecessor (takeTurn s).selected (takeTurn s)))) :=
    (acts_takeTurn s).trans <| (acts_selectPredecessor _ _).trans <| (acts_linkLossCheck _ _).trans
      (acts_membershipStage _ _ _)
  exact hbefore.trans (acts_referenceStage _ (hbefore.loading.trans hload))

variable {s} in
theorem acts_spacingStep (hload : s.loading = false) : Acts s (spacingStep s) := by
  have hcounted : Acts s (s.setFreeCount (s.freeCount + 1)) := Act.count.acts
  refine hcounted.trans ?_
  rcases spacingStep_cases s with h | h <;> rw [h]
  · exact (acts_takeSample _).trans (acts_spacingStages hload)
  · exact Relation.ReflTransGen.trans (acts_spacingStages hload) (acts_takeSample _)

end Sys2Proof.Machine
end

section
/-!
PROOFS. The writes of the Narrow Unit's step. After its drops a relation stands only with narrows that are neither left nor far
back (R137), and a narrow ahead lies so far from every other (R132) that none of those is another one: so a claim finds no other
relation.
-/

namespace Sys2Proof.Machine

variable {s t : State}

/-! ### LOCKOUT, and what a change of a relation leaves of it -/

theorem loading_eq_false_iff : s.loading = false ↔ s.loader.phase = .idle := by simp [State.loading]

theorem mode_eq_lockout_iff : s.mode = .lockout ↔ s.loading = false ∧ s.holds.lockout ≠ .none := by
  obtain ⟨-, hlockout, -⟩ := Proofs.modeIsDerived s
  rw [hlockout, loading_eq_false_iff]

theorem parkReturn_holds (before : List HoldRecord) : (parkReturn before s).holds = s.holds := by
  unfold parkReturn
  split <;> rfl

theorem releaseNotice_holds (cause : HoldCause) : (releaseNotice cause s).holds = s.holds := by
  unfold releaseNotice
  split <;> rfl

theorem releaseHold_lockout (cause : HoldCause) : (releaseHold cause s).holds.lockout = s.holds.lockout := by
  rcases releaseHold_cases s cause with ⟨-, h⟩ | ⟨-, -, h⟩ <;> rw [h]
  rw [noteModeChange_frame, State.setAir_holds, parkReturn_holds, releaseNotice_holds]
  rfl

theorem releaseWaitIf_lockout (b : Bool) : (releaseWaitIf b s).holds.lockout = s.holds.lockout := by
  unfold releaseWaitIf
  split
  · exact releaseHold_lockout _
  · rfl

theorem beaconNowIf_holds (b : Bool) : (beaconNowIf b s).holds = s.holds := by
  rw [beaconNowIf_frame]
  rfl

theorem dropRelation_lockout (i : Nat) : (dropRelation i s).holds.lockout = s.holds.lockout := by
  unfold dropRelation
  dsimp only
  split
  · rfl
  · rw [beaconNowIf_holds, releaseWaitIf_lockout]
    rfl

theorem enterHolding_lockout (i : Nat) (inherited : Bool) :
    (enterHolding i inherited s).holds.lockout = s.holds.lockout :=
  releaseWaitIf_lockout _

/-! ### The records after a change of one relation -/

theorem narrowRecord_congr (h : t.narrow = s.narrow) (i : Nat) : t.narrowRecord i = s.narrowRecord i := by
  rw [State.narrowRecord, State.narrowRecord, h]

theorem dropRelation_record_ne {i j : Nat} (h : j ≠ i) : (dropRelation i s).narrowRecord j = s.narrowRecord j := by
  by_cases hrel : (s.narrowRecord i).relation = .none
  · rw [dropRelation, if_pos hrel]
  · exact (narrowRecord_congr (dropRelation_records s i hrel) j).trans (narrowRecord_setNarrowRecord_ne s _ h.symm)

theorem dropRelation_relation_self (i : Nat) : ((dropRelation i s).narrowRecord i).relation = .none := by
  by_cases hrel : (s.narrowRecord i).relation = .none
  · rw [dropRelation, if_pos hrel, hrel]
  · rw [narrowRecord_congr (dropRelation_records s i hrel),
      narrowRecord_setNarrowRecord_self s _ (lt_length_of_relation_ne_none hrel)]
    rfl

theorem dropRelation_relation_none {i j : Nat} (h : (s.narrowRecord j).relation = .none) :
    ((dropRelation i s).narrowRecord j).relation = .none := by
  by_cases hij : j = i
  · rw [hij]
    exact dropRelation_relation_self i
  · rw [dropRelation_record_ne hij, h]

theorem enterHolding_record_ne {i j : Nat} (inherited : Bool) (h : j ≠ i) :
    (enterHolding i inherited s).narrowRecord j = s.narrowRecord j :=
  (narrowRecord_congr (enterHolding_records s i inherited) j).trans (narrowRecord_setNarrowRecord_ne s _ h.symm)

/-! ### Something done for each narrow -/

theorem foldl_keeps {σ α : Type} {f : σ → α → σ} {P : σ → Prop} {l : List α} {x : σ} (hx : P x)
    (hstep : ∀ a ∈ l, ∀ y, P y → P (f y a)) : P (l.foldl f x) := by
  induction l generalizing x with
  | nil => exact hx
  | cons a l ih =>
    exact ih (hstep a List.mem_cons_self x hx) fun b hb => hstep b (List.mem_cons_of_mem a hb)

/-- What each pass brings about for its own narrow, and leaves for the others, holds of every narrow in the end. -/
theorem foldl_establishes {σ α : Type} {f : σ → α → σ} {P : σ → Prop} {Q : α → σ → Prop} {l : List α} {x : σ} (hx : P x)
    (hstep : ∀ a ∈ l, ∀ y, P y → P (f y a)) (hown : ∀ a ∈ l, ∀ y, P y → Q a (f y a))
    (hothers : ∀ a, ∀ b ∈ l, ∀ y, P y → Q a y → Q a (f y b)) : ∀ a ∈ l, Q a (l.foldl f x) := by
  induction l generalizing x with
  | nil => simp
  | cons b l ih =>
    have hb : b ∈ b :: l := List.mem_cons_self
    have hl {a : α} (ha : a ∈ l) : a ∈ b :: l := List.mem_cons_of_mem b ha
    intro a ha
    rcases List.mem_cons.1 ha with rfl | ha
    · exact (foldl_keeps (P := fun y => P y ∧ Q a y) ⟨hstep a hb x hx, hown a hb x hx⟩
        fun c hc y hy => ⟨hstep c (hl hc) y hy.1, hothers a c (hl hc) y hy.1 hy.2⟩).2
    · exact ih (hstep b hb x hx) (fun c hc => hstep c (hl hc)) (fun c hc => hown c (hl hc))
        (fun c d hd => hothers c d (hl hd)) a ha

theorem mem_narrowIndices {c : WorkingConfig} {i : Nat} : i ∈ c.narrowIndices ↔ i < c.narrows.length := List.mem_range

theorem eachNarrow_keeps {f : Nat → State → State} {P : State → Prop} (hs : P s)
    (hstep : ∀ i < s.cfg.narrows.length, ∀ t, P t → P (f i t)) : P (eachNarrow f s) :=
  foldl_keeps hs fun i hi t => hstep i (mem_narrowIndices.1 hi) t

/-! ### The stages up to a claim (R136) -/

/-- A state within the step: reached from the reading by writes that leave all the stages read, and no lockout. -/
structure State.StageOf (rd t : State) : Prop where
  acts : Acts rd t
  outside : rd.SameOutsideHolds t
  lockout : t.holds.lockout = rd.holds.lockout

section
variable {rd : State}

theorem State.StageOf.refl (rd : State) : rd.StageOf rd := ⟨.refl, .refl rd, rfl⟩

theorem State.StageOf.cfg (h : rd.StageOf t) : t.cfg = rd.cfg := h.acts.cfg

theorem State.StageOf.front (h : rd.StageOf t) : t.front = rd.front := by
  rw [State.front, State.front, h.outside.road]

theorem State.StageOf.rear (h : rd.StageOf t) : t.rear = rd.rear := by
  rw [State.rear, State.rear, h.outside.road, h.front]

theorem State.StageOf.running (h : rd.StageOf t) (hrun : rd.mode ≠ .lockout) : t.mode ≠ .lockout := by
  rw [Ne, mode_eq_lockout_iff, h.acts.loading, h.lockout, ← mode_eq_lockout_iff]
  exact hrun

theorem State.StageOf.drop (h : rd.StageOf t) (hrun : rd.mode ≠ .lockout) (i : Nat) : rd.StageOf (dropRelation i t) :=
  ⟨h.acts.trans (HoldMove.drop i (h.running hrun)).acts, h.outside.trans (dropRelation_outside i),
    (dropRelation_lockout i).trans h.lockout⟩

theorem State.StageOf.take (h : rd.StageOf t) (hrun : rd.mode ≠ .lockout) {i : Nat} {inherited : Bool}
    (hmay : t.RouteSound → t.RelationsSound → t.MayTake i) : rd.StageOf (enterHolding i inherited t) :=
  ⟨h.acts.trans (HoldMove.take i inherited (h.running hrun) hmay).acts,
    h.outside.trans (enterHolding_outside i inherited), (enterHolding_lockout i inherited).trans h.lockout⟩

theorem State.StageOf.unclaimedEntryCounted (h : rd.StageOf t) :
    rd.StageOf (t.setCounters { t.counters with unclaimedEntry := bump t.counters.unclaimedEntry }) :=
  ⟨h.acts.trans (acts_counters (by simp [Counters.CountedTo, Counters.values])), h.outside.trans (setCounters_outside _),
    h.lockout⟩

/-- The relation with narrow `j`, if any, is with one neither left nor far back at the reading (R137). -/
def State.InPlay (rd t : State) (j : Nat) : Prop :=
  ∀ e, rd.cfg.narrows[j]? = some e → (t.narrowRecord j).relation ≠ .none →
    hasLeft e rd.road.direction rd.rear = false ∧ isFarBack rd.cfg e rd.road.direction rd.front = false

theorem State.InPlay.of_none {j : Nat} (h : (t.narrowRecord j).relation = .none) : rd.InPlay t j :=
  fun _ _ hne => absurd h hne

theorem State.InPlay.congr {u : State} {j : Nat} (h : rd.InPlay t j) (hj : u.narrowRecord j = t.narrowRecord j) :
    rd.InPlay u j := by
  unfold State.InPlay
  rw [hj]
  exact h

theorem isAhead_iff {c : WorkingConfig} {e : NarrowEntry} {d : Direction} {front : Int} :
    isAhead c e d front = true ↔ 0 ≤ entryDistance e d front ∧ entryDistance e d front ≤ c.dClaim := by
  rw [isAhead, Bool.and_eq_true, decide_eq_true_eq, decide_eq_true_eq]

theorem hasLeft_eq_false_iff {e : NarrowEntry} {d : Direction} {rear : Int} :
    hasLeft e d rear = false ↔ match d with | .up => rear < e.hi | .down => (e.lo : Int) < rear := by
  cases d <;> simp [hasLeft]

theorem isInside_iff {e : NarrowEntry} {d : Direction} {front rear : Int} :
    isInside e d front rear = true ↔
      match d with | .up => (e.lo : Int) < front ∧ rear < e.hi | .down => front < (e.hi : Int) ∧ (e.lo : Int) < rear := by
  cases d <;> simp [isInside]

theorem isFarBack_eq_false_iff {c : WorkingConfig} {e : NarrowEntry} {d : Direction} {front : Int} :
    isFarBack c e d front = false ↔ entryDistance e d front ≤ c.dClaim + 500 :=
  decide_eq_false_iff_not.trans not_lt

/-- A rig inside a narrow has neither left it nor is far back of it (R133). -/
theorem inside_in_play {e : NarrowEntry} {d : Direction} {front rear : Int} (h : isInside e d front rear = true) :
    hasLeft e d rear = false ∧ isFarBack rd.cfg e d front = false := by
  rw [isInside_iff] at h
  rw [isFarBack_eq_false_iff, hasLeft_eq_false_iff]
  cases d <;> simp only [entryDistance] at h ⊢ <;> omega

theorem State.StageOf.dropStage (h : rd.StageOf t) (hrun : rd.mode ≠ .lockout) (turned : Bool) (i : Nat) :
    rd.StageOf (dropStage turned i t) := by
  unfold Machine.dropStage
  split
  · exact h
  split
  · exact h.drop hrun i
  · exact h

/-- Stage 3 leaves relations in play alone (R137). -/
theorem dropStage_in_play (h : rd.StageOf t) (turned : Bool) (i : Nat) : rd.InPlay (dropStage turned i t) i := by
  intro e he
  unfold Machine.dropStage
  rw [h.cfg, he]
  dsimp only
  rw [h.outside.road, h.rear, h.front]
  split
  · exact fun hne => absurd (dropRelation_relation_self i) hne
  · rename_i hkeep
    intro _
    rw [Bool.not_eq_true, Bool.or_eq_false_iff, Bool.or_eq_false_iff] at hkeep
    exact ⟨hkeep.1.2, hkeep.2⟩

theorem dropStage_keeps_in_play {i j : Nat} {turned : Bool} (h : rd.InPlay t j) : rd.InPlay (dropStage turned i t) j := by
  have hdropped : rd.InPlay (dropRelation i t) j := by
    by_cases hij : j = i
    · exact .of_none (hij ▸ dropRelation_relation_self i)
    · exact h.congr (dropRelation_record_ne hij)
  unfold Machine.dropStage
  split
  · exact h
  split
  · exact hdropped
  · exact h

theorem stage_drops (hrun : rd.mode ≠ .lockout) (turned : Bool) :
    rd.StageOf (eachNarrow (dropStage turned) rd) ∧ ∀ j < rd.cfg.narrows.length, rd.InPlay (eachNarrow (dropStage turned) rd) j := by
  refine ⟨eachNarrow_keeps (.refl rd) fun i _ t ht => ht.dropStage hrun turned i, fun j hj => ?_⟩
  exact foldl_establishes (P := rd.StageOf) (Q := fun j t => rd.InPlay t j) (.refl rd)
    (fun i _ t ht => ht.dropStage hrun turned i) (fun i _ t ht => dropStage_in_play ht turned i)
    (fun i j _ t _ hi => dropStage_keeps_in_play hi) j (mem_narrowIndices.2 hj)

/-- Dropping every other relation leaves one at most (R138). -/
theorem dropOthers_relation {i j : Nat} (hj : j < s.cfg.narrows.length) (hne : j ≠ i) :
    ((dropOthers i s).narrowRecord j).relation = .none :=
  foldl_establishes (P := fun _ => True) (Q := fun j (t : State) => (t.narrowRecord j).relation = .none) trivial
    (fun _ _ _ _ => trivial) (fun j _ _ _ => dropRelation_relation_self j)
    (fun _ _ _ _ _ h => dropRelation_relation_none h) j (List.mem_filter.2 ⟨mem_narrowIndices.2 hj, by simpa using hne⟩)

theorem State.StageOf.dropOthers (h : rd.StageOf t) (hrun : rd.mode ≠ .lockout) (i : Nat) :
    rd.StageOf (dropOthers i t) :=
  foldl_keeps h fun j _ _ ht => ht.drop hrun j

theorem relation_none_of_narrows_le {j : Nat} (hrel : t.RelationsSound) (hj : t.cfg.narrows.length ≤ j) :
    (t.narrowRecord j).relation = .none := by
  rw [narrowRecord_of_length_le (hrel.1 ▸ hj)]
  rfl

/-- Stage 4 takes a narrow whose others are dropped, and takes it in play (R138). -/
theorem stage_unclaimedEntry (h : rd.StageOf t) (hrun : rd.mode ≠ .lockout) (hload : rd.loading = false)
    (hplay : ∀ j < rd.cfg.narrows.length, rd.InPlay t j) (i : Nat) :
    rd.StageOf (unclaimedEntryStage i t) ∧ ∀ j < rd.cfg.narrows.length, rd.InPlay (unclaimedEntryStage i t) j := by
  unfold unclaimedEntryStage
  split
  · exact ⟨h, hplay⟩
  rename_i e he
  split
  case isFalse => exact ⟨h, hplay⟩
  rename_i hentry
  obtain ⟨hinside, -⟩ := hentry
  have hdropped := h.dropOthers hrun i
  have hmay : (dropOthers i t).RouteSound → (dropOthers i t).RelationsSound → (dropOthers i t).MayTake i := by
    intro _ hrel
    refine .inr ⟨hdropped.acts.loading.trans hload, ?_, fun j hne => ?_⟩
    · rw [hdropped.cfg, ← h.cfg, he]
      rfl
    · by_cases hj : j < t.cfg.narrows.length
      · exact dropOthers_relation hj hne
      · refine relation_none_of_narrows_le hrel ?_
        rw [hdropped.cfg, ← h.cfg]
        exact not_lt.1 hj
  refine ⟨(hdropped.take hrun hmay).unclaimedEntryCounted, fun j hj => ?_⟩
  by_cases hij : j = i
  · intro e' he' _
    have heq : e' = e := by
      rw [enabledNarrow_eq_some_iff, h.cfg, ← hij, he'] at he
      exact Option.some.inj he.1
    rw [h.outside.road, h.front, h.rear] at hinside
    exact heq ▸ inside_in_play hinside
  · refine .of_none ?_
    show ((enterHolding i false (dropOthers i t)).narrowRecord j).relation = _
    rw [enterHolding_record_ne false hij]
    exact dropOthers_relation (h.cfg.symm ▸ hj) hij

theorem stage_unclaimedEntries (h : rd.StageOf t) (hrun : rd.mode ≠ .lockout) (hload : rd.loading = false)
    (hplay : ∀ j < rd.cfg.narrows.length, rd.InPlay t j) :
    rd.StageOf (eachNarrow unclaimedEntryStage t) ∧
      ∀ j < rd.cfg.narrows.length, rd.InPlay (eachNarrow unclaimedEntryStage t) j :=
  eachNarrow_keeps (P := fun u => rd.StageOf u ∧ ∀ j < rd.cfg.narrows.length, rd.InPlay u j) ⟨h, hplay⟩
    fun i _ _ hu => stage_unclaimedEntry hu.1 hrun hload hu.2 i

/-! ### A narrow ahead stands alone (R132, R133) -/

theorem narrowAhead_eq_some {i : Nat} (h : s.narrowAhead = some i) :
    ∃ e, s.cfg.enabledNarrow i = some e ∧ isAhead s.cfg e s.road.direction s.front = true := by
  have hahead := List.find?_some h
  cases he : s.cfg.enabledNarrow i with
  | none => simp [he] at hahead
  | some e => exact ⟨e, rfl, by simpa [he] using hahead⟩

/-- Beside a narrow ahead every other enabled one is left or far back: it stands D_claim, D_stop and the longest rig off. -/
theorem not_in_play_of_ahead {c : WorkingConfig} {a b : NarrowEntry} {d : Direction} {front : Int} {rig : Nat}
    (hahead : isAhead c a d front = true) (horder : a.lo < a.hi) (hrig : rig ≤ 4095)
    (hapart : a.hi + (c.dClaim + c.dStop + 4095) ≤ b.lo ∨ b.hi + (c.dClaim + c.dStop + 4095) ≤ a.lo) :
    ¬(hasLeft b d (rearOf d front rig) = false ∧ isFarBack c b d front = false) := by
  rw [isAhead_iff] at hahead
  rw [isFarBack_eq_false_iff, hasLeft_eq_false_iff]
  cases d <;> simp only [entryDistance, rearOf] at hahead ⊢ <;> omega

theorem narrows_apart (hroute : t.RouteSound) {i j : Nat} {a b : NarrowEntry} (ha : t.cfg.enabledNarrow i = some a)
    (hb : t.cfg.enabledNarrow j = some b) (hne : j ≠ i) :
    a.hi + (t.cfg.dClaim + t.cfg.dStop + 4095) ≤ b.lo ∨ b.hi + (t.cfg.dClaim + t.cfg.dStop + 4095) ≤ a.lo := by
  obtain ⟨ha, haen⟩ := enabledNarrow_eq_some_iff.1 ha
  obtain ⟨hb, hben⟩ := enabledNarrow_eq_some_iff.1 hb
  obtain ⟨hi, rfl⟩ := List.getElem?_eq_some_iff.1 ha
  obtain ⟨hj, rfl⟩ := List.getElem?_eq_some_iff.1 hb
  have hspaced := List.pairwise_iff_getElem.1 hroute.1
  rcases Nat.lt_or_gt_of_ne hne with hlt | hlt
  · exact (hspaced j i hj hi hlt hben haen).symm
  · exact hspaced i j hi hj hlt haen hben

/-- With a narrow ahead, no relation is in play with another one. -/
theorem others_none_of_ahead (h : rd.StageOf t) (hroute : t.RouteSound) (hrel : t.RelationsSound) {i : Nat}
    (hahead : rd.narrowAhead = some i) (hplay : ∀ j < rd.cfg.narrows.length, j ≠ i → rd.InPlay t j) (j : Nat)
    (hne : j ≠ i) : (t.narrowRecord j).relation = .none := by
  by_contra hheld
  obtain ⟨hlen, hsingle, -⟩ := hrel
  have hj := lt_length_of_relation_ne_none hheld
  obtain ⟨b, hb⟩ := Option.isSome_iff_exists.1 (hsingle j hj hheld).1
  obtain ⟨a, ha, hnear⟩ := narrowAhead_eq_some hahead
  rw [← h.cfg] at ha
  have horder : a.lo < a.hi := by
    obtain ⟨hi, hen⟩ := enabledNarrow_eq_some_iff.1 ha
    exact hroute.2.1 a (List.mem_of_getElem? hi) hen
  have hapart := narrows_apart hroute ha hb hne
  have hrig : rd.road.rigLength ≤ 4095 := h.outside.road ▸ hroute.2.2.2
  rw [h.cfg] at hapart
  refine not_in_play_of_ahead hnear horder hrig hapart (hplay j ?_ hne b ?_ hheld)
  · rw [← h.cfg, ← hlen]
    exact hj
  · rw [← h.cfg]
    exact (enabledNarrow_eq_some_iff.1 hb).1

theorem mayTake_of_ahead (h : rd.StageOf t) (hload : rd.loading = false) {i : Nat} (hahead : rd.narrowAhead = some i)
    (hplay : ∀ j < rd.cfg.narrows.length, j ≠ i → rd.InPlay t j) (hroute : t.RouteSound) (hrel : t.RelationsSound) :
    t.MayTake i := by
  obtain ⟨e, he, -⟩ := narrowAhead_eq_some hahead
  refine .inr ⟨h.acts.loading.trans hload, ?_, others_none_of_ahead h hroute hrel hahead hplay⟩
  rw [h.cfg, he]
  rfl

/-! ### The stages from a claim on -/

theorem stage_inherit (h : rd.StageOf t) (hrun : rd.mode ≠ .lockout) (hload : rd.loading = false)
    (hplay : ∀ j < rd.cfg.narrows.length, rd.InPlay t j) :
    rd.StageOf (inheritStage rd t) ∧
      ∀ i, rd.narrowAhead = some i → ∀ j < rd.cfg.narrows.length, j ≠ i → rd.InPlay (inheritStage rd t) j := by
  unfold inheritStage
  split
  case h_2 => exact ⟨h, fun _ _ j hj _ => hplay j hj⟩
  rename_i i r hahead _
  dsimp only
  split
  case isFalse => exact ⟨h, fun _ _ j hj _ => hplay j hj⟩
  refine ⟨h.take hrun (mayTake_of_ahead h hload hahead fun j hj _ => hplay j hj), fun k hk j hj hne => ?_⟩
  obtain rfl := Option.some.inj (hahead.symm.trans hk)
  exact (hplay j hj).congr (enterHolding_record_ne true hne)

theorem acts_claimStage (h : rd.StageOf t) (hrun : rd.mode ≠ .lockout) (hload : rd.loading = false)
    (hplay : ∀ i, rd.narrowAhead = some i → ∀ j < rd.cfg.narrows.length, j ≠ i → rd.InPlay t j) :
    Acts t (claimStage rd t) := by
  unfold claimStage
  split
  · exact .refl
  rename_i i hahead
  have hmay := mayTake_of_ahead h hload hahead (hplay i hahead)
  refine acts_if t (fun hclaim => ?_) fun _ => .refl
  refine acts_if t (fun _ => (HoldMove.wait i (h.running hrun) hmay).acts) fun _ => ?_
  obtain ⟨e, he, -⟩ := narrowAhead_eq_some hahead
  exact (HoldMove.claim i (h.running hrun) hmay hclaim.1 (by rw [h.cfg, he]; rfl)).acts

theorem acts_phaseStage {i : Nat} (hi : i < t.cfg.narrows.length) : Acts t (phaseStage i t) := by
  unfold phaseStage
  dsimp only
  refine acts_if t (fun _ => .refl) fun hrun => ?_
  split
  · exact acts_if t (fun _ => .refl) fun _ => acts_contestPhase t hrun hi
  · exact acts_if t (fun _ => acts_deferPhase t i hrun) fun _ => .refl
  · rename_i hrel
    exact acts_if t (fun _ => acts_enterWaiting hrun (by simp [hrel])) fun _ => .refl
  · exact .refl

theorem acts_phaseStages : Acts t (eachNarrow phaseStage t) := by
  refine eachNarrow_keeps (P := Acts t) .refl fun i hi u hu => hu.trans (acts_phaseStage ?_)
  rw [hu.cfg]
  exact hi

theorem acts_narrowStep (hload : s.loading = false) : Acts s (narrowStep s) := by
  have hread : Acts s (s.setRoad { s.road with turnNarrow := false }) := acts_road ⟨.inl rfl, .inl rfl⟩
  unfold narrowStep
  dsimp only
  refine acts_if s (fun _ => hread) fun hrun => hread.trans ?_
  generalize s.setRoad { s.road with turnNarrow := false } = rd at hrun hread
  have hload' : rd.loading = false := hread.loading.trans hload
  obtain ⟨hdrops, hplay⟩ := stage_drops hrun s.road.turnNarrow
  obtain ⟨hentries, hplay⟩ := stage_unclaimedEntries hdrops hrun hload' hplay
  obtain ⟨hinherit, hplay⟩ := stage_inherit hentries hrun hload' hplay
  exact hinherit.acts.trans ((acts_claimStage hinherit hrun hload' hplay).trans acts_phaseStages)

end

end Sys2Proof.Machine
end

section
/-!
PROOFS. Every command as its writes: a chain, or a jump (a CLEAR, power-on, a load that ends, a restart) with the chain around
it. Every command answers a next state, and a step keeps what every write and every jump keeps.
-/

namespace Sys2Proof.Machine

/-! ### The Service Line -/

section
variable (s : State)

/-- A request taken is a chain, but that a CLEAR ends in setting the counters to 0 (R187). -/
theorem acts_takeRequest (r : Request) :
    Acts s (takeRequest r s) ∨ ∃ u, Acts s u ∧ takeRequest r s = u.setCounters .zero ∧ r = .clear := by
  have hread : Acts s (s.setService { s.service with response := some { request := r, lines := s.responseLines r } }) :=
    (Act.service _).acts
  cases r with
  | clear => exact .inr ⟨_, hread, rfl, rfl⟩
  | resume =>
    refine .inl (hread.trans ?_)
    exact Relation.ReflTransGen.trans (acts_setHandset _ (h := { s.handset with resumePending := true }) rfl)
      (acts_takeResumePending (setResumePending _))
  | _ => exact .inl hread

theorem acts_requestArrives (r : Request) :
    Acts s (requestArrives r s) ∨ ∃ u, Acts s u ∧ requestArrives r s = u.setCounters .zero ∧ r = .clear := by
  rcases requestArrives_cases s r with ⟨-, -, h⟩ | ⟨-, -, h⟩ | ⟨-, h⟩ <;> rw [h]
  · exact acts_takeRequest s r
  · exact .inl (Act.service _).acts
  · exact .inl (acts_counters (by simp [Counters.CountedTo, Counters.values]))

end

/-! ### Jumps -/

/-- The commands by which a restart is taken (R162, R184, R186). -/
def IsRestart (c : Instr) : Prop := c = .restart ∨ c = .resetGesture ∨ c = .responseEnd

/-- The commands by which a CLEAR is taken (R186, R187). -/
def IsClear (c : Instr) : Prop := c = .clear ∨ c = .responseEnd ∨ c = .receivedCharacter 13

/-- What a command may do that is no chain of writes, and whether the OBST level is then taken afresh (R172). -/
inductive Jump (c : Instr) (s : State) : (fresh : Bool) → State → Prop where
  | cleared (hc : IsClear c) : Jump c s false (s.setCounters .zero)
  | powerOn (hc : c = .powerOn) : Jump c s false (powerOn s)
  | failed (buffer : List Byte) (r : LoadReason) (h : s.loader.phase = .ended buffer (some r)) :
      Jump c s false (failLoad r s)
  | loaded (image : List Byte) (h : s.loader.phase = .ended image none) :
      Jump c s true (blocksAtLoad (installConfig image s))
  | reloaded (hc : IsRestart c) (h : s.restartReloads = true) : Jump c s false (restartReload s)
  | restarted (hc : IsRestart c) (h : s.restartReloads = false) :
      Jump c s true (scheduleFirstBeacon (startStepTimers (restartBlocks s)))

/-- A chain, or a chain and a jump, after which the lamps are settled. -/
def Run (c : Instr) (s t : State) : Prop :=
  Acts s t ∨ ∃ a fresh b, Acts s a ∧ Jump c a fresh b ∧ t = settleLamps (if fresh then takeObstLevel b else b)

section
variable {c : Instr} {s t u : State}

theorem Acts.run (h : Acts s u) : Run c s (settleLamps u) := .inl (h.tail .lamps)

theorem Jump.run (h : Jump c s false u) : Run c s (settleLamps u) := .inr ⟨s, _, u, .refl, h, rfl⟩

theorem run_clear (hc : IsClear c) (h : Acts s u) : Run c s (settleLamps (u.setCounters .zero)) :=
  .inr ⟨u, _, _, h, .cleared hc, rfl⟩

theorem run_requestArrives (r : Request) (hc : r = .clear → IsClear c) (h : Acts s u) :
    Run c s (settleLamps (requestArrives r u)) := by
  rcases acts_requestArrives u r with hacts | ⟨v, hacts, heq, hr⟩
  · exact Acts.run (h.trans hacts)
  · rw [heq]
    exact run_clear (hc hr) (h.trans hacts)

theorem run_restart (hc : IsRestart c) : Run c s (settleLamps (restart s)) := by
  unfold restart
  split
  · exact (Jump.reloaded hc ‹_›).run
  · rename_i hkeeps
    exact .inr ⟨s, _, _, .refl, .restarted hc (Bool.eq_false_of_not_eq_true hkeeps), rfl⟩

theorem run_responseEnd (hc : c = .responseEnd) : Run c s (settleLamps (responseEnd s)) := by
  unfold responseEnd
  split
  · exact Acts.run .refl
  split
  · exact run_restart (.inr (.inr hc))
  split
  · exact Acts.run (Act.service _).acts
  · rename_i q _
    have hended : Acts s (s.setService { s.service with response := none, pendingRequest := none }) :=
      (Act.service _).acts
    rcases acts_takeRequest _ q with hacts | ⟨v, hacts, heq, -⟩
    · exact Acts.run (hended.trans hacts)
    · rw [heq]
      exact run_clear (.inr (.inl hc)) (hended.trans hacts)

theorem run_receivedCharacter (char : Byte) (hc : c = .receivedCharacter char) :
    Run c s (settleLamps (receivedCharacter char s)) := by
  unfold receivedCharacter
  split
  · exact Acts.run .refl
  split
  · rename_i hreturn
    split
    · exact Acts.run .refl
    · exact run_requestArrives _ (fun _ => .inr (.inr (hc.trans (congrArg _ hreturn)))) (Act.service _).acts
  · exact Acts.run (Act.service _).acts

theorem loadAfter_ne_idle (buffer : List Byte) (now : Time) : loadAfter buffer now ≠ .idle := by
  unfold loadAfter
  split
  · simp
  split
  · simp
  split <;> simp

theorem run_imageByte (b : Byte) : Run c s (settleLamps (imageByte b s)) := by
  unfold imageByte
  split
  · rename_i h
    exact Acts.run (Act.loader _ (by simp [h]) (loadAfter_ne_idle _ _)).acts
  · exact Acts.run .refl

theorem run_loadByteTimeout : Run c s (settleLamps (loadByteTimeout s)) := by
  unfold loadByteTimeout
  split
  · rename_i h
    exact Acts.run (Act.loader _ (by simp [h]) (by simp)).acts
  · exact Acts.run .refl

theorem run_loadFailure : Run c s (settleLamps (loadFailure s)) := by
  unfold loadFailure
  split
  · exact (Jump.failed _ _ ‹_›).run
  · exact Acts.run .refl

theorem run_loadSuccess : Run c s (settleLamps (loadSuccess s)) := by
  unfold loadSuccess
  split
  · exact .inr ⟨s, _, _, .refl, .loaded _ ‹_›, rfl⟩
  · exact Acts.run .refl

theorem run_whenDue {due : Bool} {effect : State → State} (h : due = true → Run c s (settleLamps (effect s))) :
    ∃ t, whenDue due effect s = .next t ∧ Run c s t := by
  rcases whenDue_cases s due effect with ⟨hdue, heq⟩ | ⟨-, heq⟩ <;> rw [heq]
  · exact ⟨_, rfl, h hdue⟩
  · exact ⟨s, rfl, .inl .refl⟩

/-- A step whose timer has run, which no START has. -/
theorem loading_of_stepDue {timer : Running} (h : s.stepDue timer = true) : s.loading = false := by
  simp only [State.stepDue, Bool.and_eq_true, validConfig_eq_true_iff] at h
  exact h.1.1

end

/-! ### Every command -/

/-- Every command answers a next state, by a chain or a jump. -/
theorem exec_run (c : Instr) (s : State) : ∃ t, exec c s = .next t ∧ Run c s t := by
  have request {c : Instr} (r : Request) (hc : r = .clear → IsClear c) :
      ∃ t, done (requestArrives r s) = .next t ∧ Run c s t := ⟨_, rfl, run_requestArrives r hc .refl⟩
  cases c with
  | powerOn => exact ⟨_, rfl, (Jump.powerOn rfl).run⟩
  | loadByteTimeout => exact run_whenDue fun _ => run_loadByteTimeout
  | loadFailure => exact run_whenDue fun _ => run_loadFailure
  | loadSuccess => exact run_whenDue fun _ => run_loadSuccess
  | restart => exact ⟨_, rfl, run_restart (.inl rfl)⟩
  | encoderEdge => exact ⟨_, rfl, Acts.run (acts_encoderEdge s)⟩
  | markerCode code => exact ⟨_, rfl, Acts.run (acts_markerCode s _)⟩
  | hitchEdge level => exact ⟨_, rfl, Acts.run (acts_hitchEdge s level)⟩
  | hitchDebounceExpiry => exact run_whenDue fun _ => Acts.run (acts_hitchExpiry s)
  | obstEdge level => exact ⟨_, rfl, Acts.run (acts_obstEdge s level)⟩
  | obstDebounceExpiry => exact run_whenDue fun _ => Acts.run (acts_obstExpiry s)
  | sync => exact ⟨_, rfl, Acts.run (acts_syncPulse s)⟩
  | receivedFrame => exact run_whenDue fun _ => Acts.run (acts_receiveFrame s)
  | frameTimeout => exact run_whenDue fun _ => Acts.run (acts_frameTimeout s)
  | transmitReport => exact ⟨_, rfl, Acts.run (acts_moduleByte s _)⟩
  | beaconDue => exact run_whenDue fun _ => Acts.run (acts_beaconDue s)
  | arbiterGrant => exact run_whenDue fun _ => Acts.run (acts_arbiterGrant s)
  | busyChange asserted => exact ⟨_, rfl, Acts.run (acts_busyChange s asserted)⟩
  | busyAttemptTimeout => exact run_whenDue fun _ => Acts.run (acts_busyAttemptTimeout s)
  | backoffEnd => exact run_whenDue fun _ => Acts.run (acts_backoffEnd s)
  | frameHanded => exact ⟨_, rfl, Acts.run (acts_frameHanded s)⟩
  | radioTimeout => exact run_whenDue fun _ => Acts.run (acts_radioTimeout s)
  | spacingStep =>
    refine run_whenDue (effect := (fun s => spacingStep (s.setSpacing { s.spacing with stepTimer := s.spacing.stepTimer.again 20 }))) fun hdue =>
      Acts.run ?_
    have htimer : Acts s (s.setSpacing { s.spacing with stepTimer := s.spacing.stepTimer.again 20 }) :=
      acts_setSpacing s rfl rfl rfl
    exact htimer.trans (acts_spacingStep (htimer.loading.trans (loading_of_stepDue hdue)))
  | driveStep =>
    refine run_whenDue (effect := (fun s => driveStep (s.setDrive { s.drive with stepTimer := s.drive.stepTimer.again 20 }))) fun _ =>
      Acts.run ?_
    have htimer : Acts s (s.setDrive { s.drive with stepTimer := s.drive.stepTimer.again 20 }) :=
      acts_drive ⟨id, rfl, fun _ => id⟩
    exact htimer.trans (acts_driveStep _)
  | pwmPeriodEnd => exact ⟨_, rfl, Acts.run (acts_pwmPeriodEnd s)⟩
  | sweep => exact run_whenDue fun _ => Acts.run (acts_sweep s)
  | narrowStep =>
    refine run_whenDue (effect := (fun s => narrowStep (s.setNarrow { s.narrow with stepTimer := s.narrow.stepTimer.again 20 }))) fun hdue =>
      Acts.run ?_
    have htimer : Acts s (s.setNarrow { s.narrow with stepTimer := s.narrow.stepTimer.again 20 }) :=
      acts_narrow ⟨List.forall₂_same.2 fun _ _ => .refl _, id⟩
    exact htimer.trans (acts_narrowStep (htimer.loading.trans (loading_of_stepDue hdue)))
  | askDue =>
    simp only [exec, execAskDue]
    split
    · exact ⟨s, rfl, .inl .refl⟩
    · exact ⟨_, rfl, Acts.run (acts_askDue s ‹_›)⟩
  | answerWindowEnd =>
    simp only [exec, execAnswerWindowEnd]
    split
    · exact ⟨s, rfl, .inl .refl⟩
    · rename_i i hwindow
      refine ⟨_, rfl, Acts.run ?_⟩
      unfold State.windowTime at hwindow
      split at hwindow
      · simp at hwindow
      · rename_i hrun
        obtain ⟨-, hreached⟩ := findNarrow_eq_some hwindow
        refine (HoldMove.take i false hrun fun _ _ => .inl fun hnone => ?_).acts
        unfold NarrowRecord.windowReached NarrowRecord.inRound at hreached
        split at hreached <;> simp [hnone] at hreached
  | answerExpiry => exact run_whenDue fun _ => Acts.run (acts_expireAnswer s)
  | waitAgeExpiry => exact run_whenDue fun _ => Acts.run (acts_waitAgeExpiry s)
  | throttlePulse width => exact ⟨_, rfl, Acts.run (acts_throttlePulse s width)⟩
  | modePulse width => exact ⟨_, rfl, Acts.run (acts_modePulse s width)⟩
  | channelAbsent channel => exact run_whenDue fun _ => Acts.run (acts_channelAbsent s channel)
  | stopTimerExpiry => exact run_whenDue fun _ => Acts.run (acts_stopTimerExpiry s)
  | resetGesture => exact run_whenDue fun _ => run_restart (.inr (.inl rfl))
  | lampTimebaseBoundary => exact ⟨_, rfl, Acts.run .refl⟩
  | status => exact request .status nofun
  | peers => exact request .peers nofun
  | holds => exact request .holds nofun
  | narrows => exact request .narrows nofun
  | counters => exact request .counters nofun
  | config => exact request .config nofun
  | clear => exact request .clear fun _ => .inl rfl
  | resume => exact request .resume nofun
  | restartRequest => exact request .restart nofun
  | unknownWord => exact request .unknown nofun
  | responseEnd => exact ⟨_, rfl, run_responseEnd rfl⟩
  | receivedFrameByte byte => exact ⟨_, rfl, Acts.run (acts_moduleByte s byte)⟩
  | imageByte byte => exact ⟨_, rfl, run_imageByte byte⟩
  | receivedCharacter char => exact ⟨_, rfl, run_receivedCharacter char rfl⟩

theorem run_of_exec {c : Instr} {s t : State} (h : exec c s = .next t) : Run c s t := by
  obtain ⟨t', heq, hrun⟩ := exec_run c s
  obtain rfl := Host.Outcome.next.inj (heq.symm.trans h)
  exact hrun

/-! ### What commands and steps keep -/

section
variable {P : State → Prop}

/-- A command keeps what every write and every jump keeps. -/
theorem exec_invariant (hact : ∀ {s t}, Act s t → P s → P t) (hjump : ∀ {c s fresh t}, Jump c s fresh t → P s → P t) {c : Instr}
    {s t : State} (h : exec c s = .next t) (hs : P s) : P t := by
  rcases run_of_exec h with hacts | ⟨a, fresh, b, hacts, hj, rfl⟩
  · exact hacts.invariant hact hs
  · have hb : P b := hjump hj (hacts.invariant hact hs)
    refine hact .lamps ?_
    split
    · exact (acts_takeObstLevel b).invariant hact hb
    · exact hb

/-- A step keeps what every write, every jump, the queue and the clock keep. -/
theorem step_invariant (hact : ∀ {s t}, Act s t → P s → P t) (hjump : ∀ {c s fresh t}, Jump c s fresh t → P s → P t)
    (hqueue : ∀ s rest, P s → P (s.setPending rest)) (hclock : ∀ s, P s → P (tick s)) {s t : State}
    (h : step s = .next t) (hs : P s) : P t := by
  unfold step at h
  split at h
  · exact exec_invariant hact hjump h (hqueue s _ hs)
  split at h
  · refine exec_invariant hact hjump h ?_
    unfold State.afterChoice
    split
    · exact hact .count hs
    · exact hs
  · exact Host.Outcome.next.inj h ▸ hclock s hs

end

end Sys2Proof.Machine
end

section
/-!
PROOFS. What each write does to each block: one lemma for a block, over all writes. A change of the Hold Stack moves the other
blocks only as far as their own writes may.
-/

namespace Sys2Proof.Machine

variable {s t : State}

/-! ### A push and a release, block by block -/

theorem AirPort.MovedTo.refl (a : AirPort) : a.MovedTo a := ⟨.inl rfl, .inl rfl, le_rfl⟩

theorem noteModeChange_air_moved (before : Mode) {a : AirPort} (h : s.air = a) :
    a.MovedTo (noteModeChange before s).air := by
  subst h
  rcases noteModeChange_cases s before with h | h <;> rw [h]
  · exact .refl _
  · exact ⟨.inr rfl, .inl rfl, le_rfl⟩

@[simp] theorem noteModeChange_holds (before : Mode) : (noteModeChange before s).holds = s.holds := by
  rw [noteModeChange_frame]
  rfl

@[simp] theorem noteModeChange_drive (before : Mode) : (noteModeChange before s).drive = s.drive := by
  rw [noteModeChange_frame]
  rfl

theorem enterLockout_holds (cause : LockoutCause) : (enterLockout cause s).holds = { s.holds with lockout := cause } := by
  rw [enterLockout_frame]
  rfl

theorem enterLockout_overrun_drive : (enterLockout .holdOverrun s).drive = s.drive.kill := by
  unfold enterLockout
  rw [noteModeChange_drive]
  rfl

theorem enterLockout_air_moved (cause : LockoutCause) : s.air.MovedTo (enterLockout cause s).air := by
  have hnotice : (lockoutNotice cause (s.setHolds { s.holds with lockout := cause })).air = s.air := by
    rw [lockoutNotice_frame]
    rfl
  exact noteModeChange_air_moved s.mode hnotice

/-- What a push leaves of the stack and the drive (R118, R119, R120). -/
theorem pushHold_holds_drive (s : State) (cause : HoldCause) (lost : Option Nat) :
    (s.stackClosed = true ∧ (pushHold cause lost s).holds = s.holds ∧ (pushHold cause lost s).drive = s.drive) ∨
    (s.stackClosed = false ∧ s.holds.has cause = true ∧
      (pushHold cause lost s).holds = { s.holds with stack := reviveIn s.holds.stack cause s.time lost } ∧
      (pushHold cause lost s).drive = s.drive) ∨
    (s.stackClosed = false ∧ s.holds.has cause = false ∧ s.holds.stack.length < 4 ∧
      (pushHold cause lost s).holds = { s.holds with stack := newHold cause lost s :: s.holds.stack } ∧
      (pushHold cause lost s).drive = s.drive) ∨
    (s.stackClosed = false ∧ s.holds.has cause = false ∧ 4 ≤ s.holds.stack.length ∧
      (pushHold cause lost s).holds = { s.holds with lockout := .holdOverrun } ∧
      (pushHold cause lost s).drive = s.drive.kill) := by
  rcases pushHold_cases s cause lost with ⟨h1, h⟩ | ⟨h1, h2, h⟩ | ⟨h1, h2, h3, h⟩ | ⟨h1, h2, h3, h⟩ <;> rw [h]
  · exact .inl ⟨h1, rfl, rfl⟩
  · exact .inr (.inl ⟨h1, h2, noteModeChange_holds _, noteModeChange_drive _⟩)
  · exact .inr (.inr (.inl ⟨h1, h2, h3, noteModeChange_holds _, noteModeChange_drive _⟩))
  · exact .inr (.inr (.inr ⟨h1, h2, h3, enterLockout_holds _, enterLockout_overrun_drive⟩))

theorem pushHold_air_moved (cause : HoldCause) (lost : Option Nat) : s.air.MovedTo (pushHold cause lost s).air := by
  rcases pushHold_cases s cause lost with ⟨-, h⟩ | ⟨-, -, h⟩ | ⟨-, -, -, h⟩ | ⟨-, -, -, h⟩ <;> rw [h]
  · exact .refl _
  · exact noteModeChange_air_moved _ rfl
  · exact noteModeChange_air_moved _ rfl
  · exact enterLockout_air_moved _

theorem parkReturn_frame (before : List HoldRecord) : parkReturn before s = s.setSpacing (parkReturn before s).spacing := by
  unfold parkReturn
  split <;> rfl

theorem releaseNotice_frame (cause : HoldCause) : releaseNotice cause s = s.setDrive (releaseNotice cause s).drive := by
  unfold releaseNotice
  split <;> rfl

/-- What a release leaves of the stack and the drive (R121, R122). -/
theorem releaseHold_holds_drive (s : State) (cause : HoldCause) :
    ((s.stackClosed = true ∨ s.holds.unreleased cause = false) ∧ (releaseHold cause s).holds = s.holds ∧
      (releaseHold cause s).drive = s.drive) ∨
    (s.stackClosed = false ∧ s.holds.unreleased cause = true ∧
      (releaseHold cause s).holds = { s.holds with stack := popCascade (markReleased s.holds.stack cause) } ∧
      (releaseHold cause s).drive =
        if cause = .obstruction then { s.drive with obstructionKill := false } else s.drive) := by
  rcases releaseHold_cases s cause with ⟨h1, h⟩ | ⟨h1, h2, h⟩ <;> rw [h]
  · exact .inl ⟨h1, rfl, rfl⟩
  · refine .inr ⟨h1, h2, ?_, ?_⟩
    · rw [noteModeChange_holds, parkReturn_holds, releaseNotice_holds]
      rfl
    · rw [noteModeChange_drive, parkReturn_frame]
      unfold releaseNotice
      split <;> rfl

theorem releaseHold_air_moved (cause : HoldCause) : s.air.MovedTo (releaseHold cause s).air := by
  rcases releaseHold_cases s cause with ⟨-, h⟩ | ⟨-, -, h⟩ <;> rw [h]
  · exact .refl _
  · rw [releaseNotice_frame, parkReturn_frame]
    exact noteModeChange_air_moved _ rfl

/-- A release leaves the Spacing Unit, or parks it (R123). -/
theorem releaseHold_spacing_cases (s : State) (cause : HoldCause) :
    (releaseHold cause s).spacing = s.spacing ∨ (releaseHold cause s).spacing = s.spacing.parkedAs s.ownId := by
  rcases releaseHold_cases s cause with ⟨-, h⟩ | ⟨-, -, h⟩ <;> rw [h]
  · exact .inl rfl
  · rw [noteModeChange_spacing, releaseNotice_frame]
    unfold parkReturn
    split
    · exact .inr rfl
    · exact .inl rfl

theorem pushHold_narrow (cause : HoldCause) (lost : Option Nat) : (pushHold cause lost s).narrow = s.narrow := by
  rw [pushHold_frame]
  rfl

theorem pushHold_counters (cause : HoldCause) (lost : Option Nat) : (pushHold cause lost s).counters = s.counters := by
  rw [pushHold_frame]
  rfl

theorem releaseHold_narrow (cause : HoldCause) : (releaseHold cause s).narrow = s.narrow := by
  rw [releaseHold_frame]
  rfl

theorem releaseHold_counters (cause : HoldCause) : (releaseHold cause s).counters = s.counters := by
  rw [releaseHold_frame]
  rfl

/-! ### A relation's change is a record written, a push or a release, and a beacon -/

theorem enterHolding_eq (s : State) (i : Nat) (inherited : Bool) :
    enterHolding i inherited s =
      requestBeaconNow (releaseWaitIf (decide ((s.narrowRecord i).relation = .waiting))
        (s.setNarrowRecord i ((s.narrowRecord i).toHolding inherited))) := rfl

theorem releaseWaitIf_cases (s : State) (b : Bool) :
    releaseWaitIf b s = s ∨ (b = true ∧ releaseWaitIf b s = releaseHold .narrowWait s) := by
  cases b
  · exact .inl rfl
  · exact .inr ⟨rfl, rfl⟩

theorem releaseWaitIf_air_moved (b : Bool) : s.air.MovedTo (releaseWaitIf b s).air := by
  rcases releaseWaitIf_cases s b with h | ⟨-, h⟩ <;> rw [h]
  · exact .refl _
  · exact releaseHold_air_moved _

theorem releaseWaitIf_spacing_cases (s : State) (b : Bool) :
    (releaseWaitIf b s).spacing = s.spacing ∨ (releaseWaitIf b s).spacing = s.spacing.parkedAs s.ownId := by
  rcases releaseWaitIf_cases s b with h | ⟨-, h⟩ <;> rw [h]
  · exact .inl rfl
  · exact releaseHold_spacing_cases _ _

theorem releaseWaitIf_narrow (b : Bool) : (releaseWaitIf b s).narrow = s.narrow := by
  rcases releaseWaitIf_cases s b with h | ⟨-, h⟩ <;> rw [h]
  exact releaseHold_narrow _

theorem releaseWaitIf_counters (b : Bool) : (releaseWaitIf b s).counters = s.counters := by
  rcases releaseWaitIf_cases s b with h | ⟨-, h⟩ <;> rw [h]
  exact releaseHold_counters _

theorem AirPort.MovedTo.beaconNow {a b : AirPort} (h : a.MovedTo b) (x : Bool) : a.MovedTo { b with beaconNow := x } :=
  ⟨h.jitter, h.rotation, h.firstCount⟩

theorem dropRelation_cases (s : State) (i : Nat) :
    ((s.narrowRecord i).relation = .none ∧ dropRelation i s = s) ∨
    ((s.narrowRecord i).relation ≠ .none ∧
      dropRelation i s =
        beaconNowIf (decide ((s.narrowRecord i).relation = .holding))
          (releaseWaitIf (decide ((s.narrowRecord i).relation = .waiting))
            (s.setNarrowRecord i (s.narrowRecord i).toNone))) := by
  by_cases h : (s.narrowRecord i).relation = .none
  · exact .inl ⟨h, if_pos h⟩
  · exact .inr ⟨h, if_neg h⟩

theorem Counters.CountedTo.refl (c : Counters) : c.CountedTo c := List.forall₂_same.2 fun _ _ => .inl rfl

/-- A change of the Hold Stack or of a relation moves the Air Port as any write may. -/
theorem HoldMove.air (h : HoldMove s t) : s.air.MovedTo t.air := by
  cases h with
  | push cause lost => exact pushHold_air_moved cause lost
  | release cause => exact releaseHold_air_moved cause
  | activate =>
    rcases obstructionActivation_cases s with ⟨-, h⟩ | ⟨-, t, rfl | rfl, h⟩ <;> rw [h]
    · exact .refl _
    · exact pushHold_air_moved (s := s.setFreeCount (s.freeCount + 1)) .obstruction none
    · exact pushHold_air_moved (s := obstructionKillNotice (spacingKillNotice (s.setFreeCount (s.freeCount + 1))))
        .obstruction none
  | wait i =>
    rcases enterWaiting_cases s i with ⟨-, h⟩ | ⟨-, h⟩ <;> rw [h]
    · exact enterLockout_air_moved _
    · rw [beaconNowIf_frame]
      exact (pushHold_air_moved (s := s.setNarrowRecord i (s.narrowRecord i).toWaiting) .narrowWait none).beaconNow _
  | take i inherited =>
    exact (releaseWaitIf_air_moved (s := s.setNarrowRecord i ((s.narrowRecord i).toHolding inherited)) _).beaconNow _
  | claim i => exact (AirPort.MovedTo.refl s.air).beaconNow true
  | drop i =>
    rcases dropRelation_cases s i with ⟨-, h⟩ | ⟨-, h⟩ <;> rw [h]
    · exact .refl _
    · rw [beaconNowIf_frame]
      exact (releaseWaitIf_air_moved (s := s.setNarrowRecord i (s.narrowRecord i).toNone) _).beaconNow _

theorem HoldMove.counters (h : HoldMove s t) : s.counters.CountedTo t.counters := by
  cases h with
  | push cause lost => exact pushHold_counters (s := s) cause lost ▸ .refl _
  | release cause => exact releaseHold_counters (s := s) cause ▸ .refl _
  | activate =>
    rcases obstructionActivation_cases s with ⟨-, h⟩ | ⟨-, t, ht, h⟩ <;> rw [h]
    · exact .refl _
    · have hsame : t.counters = s.counters := by
        rcases ht with rfl | rfl
        · exact pushHold_counters (s := s.setFreeCount (s.freeCount + 1)) _ _
        · exact pushHold_counters _ _
      rw [hsame]
      simp [Counters.CountedTo, Counters.values]
  | wait i =>
    rcases enterWaiting_cases s i with ⟨-, h⟩ | ⟨-, h⟩ <;> rw [h]
    · rw [enterLockout_frame]
      exact .refl _
    · rw [beaconNowIf_frame]
      exact pushHold_counters (s := s.setNarrowRecord i (s.narrowRecord i).toWaiting) .narrowWait none ▸ .refl _
  | take i inherited =>
    exact releaseWaitIf_counters (s := s.setNarrowRecord i ((s.narrowRecord i).toHolding inherited)) _ ▸ .refl _
  | claim i => exact .refl _
  | drop i =>
    rcases dropRelation_cases s i with ⟨-, h⟩ | ⟨-, h⟩ <;> rw [h]
    · exact .refl _
    · rw [beaconNowIf_frame]
      exact releaseWaitIf_counters (s := s.setNarrowRecord i (s.narrowRecord i).toNone) _ ▸ .refl _

/-- A Spacing Unit that stands, or is parked. -/
theorem State.SpacingMovedTo.of_parked {u : SpacingUnit} (h : u = s.spacing ∨ u = s.spacing.parkedAs s.ownId) :
    s.SpacingMovedTo u := by
  rcases h with rfl | rfl
  · exact ⟨.inl ⟨rfl, rfl⟩, id, fun _ => .inl rfl⟩
  · exact .alone rfl rfl rfl

theorem HoldMove.spacing (h : HoldMove s t) : s.SpacingMovedTo t.spacing := by
  cases h with
  | push cause lost => exact .of_parked (.inl (pushHold_spacing s cause lost))
  | release cause => exact .of_parked (releaseHold_spacing_cases s cause)
  | activate =>
    rcases obstructionActivation_cases s with ⟨-, h⟩ | ⟨-, t, ht, h⟩ <;> rw [h]
    · exact .of_parked (.inl rfl)
    · have hstopped : t.spacing = { s.spacing with vRef := 0 } := by
        rcases ht with rfl | rfl
        · show SpacingUnit.mk .. = _
          simp [obstructionKillNotice]
        · rw [pushHold_spacing]
          rfl
      show s.SpacingMovedTo t.spacing
      rw [hstopped]
      exact ⟨.inl ⟨rfl, rfl⟩, fun _ => Nat.zero_le _, fun _ => .inr rfl⟩
  | wait i =>
    rw [enterWaiting_frame]
    exact .of_parked (.inl rfl)
  | take i inherited =>
    exact .of_parked (releaseWaitIf_spacing_cases (s.setNarrowRecord i ((s.narrowRecord i).toHolding inherited)) _)
  | claim i => exact .of_parked (.inl rfl)
  | drop i =>
    rcases dropRelation_cases s i with ⟨-, h⟩ | ⟨-, h⟩ <;> rw [h]
    · exact .of_parked (.inl rfl)
    · rw [beaconNowIf_frame]
      exact .of_parked (releaseWaitIf_spacing_cases (s.setNarrowRecord i (s.narrowRecord i).toNone) _)

/-! ### The narrow records -/

theorem State.RecordBoundsKept.refl (r : NarrowRecord) : s.RecordBoundsKept r r := ⟨id, fun _ _ h => h⟩

/-- A record with no ask to come, and a wait age that stands or is 0. -/
theorem State.RecordBoundsKept.quiet {r r' : NarrowRecord} (hage : r'.waitAge = r.waitAge ∨ r'.waitAge = 0)
    (hsent : r'.asksSent = r.asksSent) (hask : r'.ask = .none) : s.RecordBoundsKept r r' := by
  refine ⟨fun h => ?_, fun _ _ h => ⟨hsent ▸ h.1, fun hne => absurd hask hne⟩⟩
  rcases hage with hage | hage <;> omega

/-- The records after a record is written within its bounds. -/
theorem bounds_of_set {n : NarrowUnit} {i : Nat} {r : NarrowRecord} (h : n = (s.setNarrowRecord i r).narrow)
    (hr : s.RecordBoundsKept (s.narrowRecord i) r) :
    List.Forall₂ s.RecordBoundsKept s.narrow.records n.records ∧ n.queue = s.narrow.queue := by
  subst h
  exact ⟨forall₂_set .refl fun _ hy => narrowRecord_eq_of_getElem? hy ▸ hr, rfl⟩

theorem HoldMove.narrow (h : HoldMove s t) :
    List.Forall₂ s.RecordBoundsKept s.narrow.records t.narrow.records ∧ t.narrow.queue = s.narrow.queue := by
  have hsame : List.Forall₂ s.RecordBoundsKept s.narrow.records s.narrow.records ∧ s.narrow.queue = s.narrow.queue :=
    ⟨List.forall₂_same.2 fun _ _ => .refl _, rfl⟩
  cases h with
  | push cause lost => rwa [pushHold_narrow]
  | release cause => rwa [releaseHold_narrow]
  | activate =>
    rcases obstructionActivation_cases s with ⟨-, h⟩ | ⟨-, t, ht, h⟩ <;> rw [h]
    · exact hsame
    · have hnarrow : t.narrow = s.narrow := by
        rcases ht with rfl | rfl
        · exact pushHold_narrow (s := s.setFreeCount (s.freeCount + 1)) _ _
        · exact pushHold_narrow _ _
      show List.Forall₂ _ _ t.narrow.records ∧ t.narrow.queue = _
      rwa [hnarrow]
  | wait i =>
    rcases enterWaiting_cases s i with ⟨-, h⟩ | ⟨-, h⟩ <;> rw [h]
    · rw [enterLockout_frame]
      exact hsame
    · rw [beaconNowIf_frame]
      have hnarrow := pushHold_narrow (s := s.setNarrowRecord i (s.narrowRecord i).toWaiting) .narrowWait none
      obtain ⟨hrecords, hqueue⟩ := bounds_of_set hnarrow (.quiet (.inl rfl) rfl rfl)
      exact ⟨hrecords, hqueue⟩
  | take i inherited => exact bounds_of_set (enterHolding_records s i inherited) (.quiet (.inl rfl) rfl rfl)
  | claim i hrun hmay hfree henabled =>
    refine bounds_of_set rfl ⟨fun _ => Nat.zero_le _, fun _ htwo _ => ⟨Nat.zero_le _, fun _ => ?_⟩⟩
    exact Nat.lt_of_lt_of_le Nat.zero_lt_two (htwo (config_ne_none_of_lt_narrows (lt_narrows_of_enabled henabled)))
  | drop i =>
    by_cases h : (s.narrowRecord i).relation = .none
    · rw [dropRelation, if_pos h]
      exact hsame
    · exact bounds_of_set (dropRelation_records s i h) (.quiet (.inr rfl) rfl rfl)

end Sys2Proof.Machine
end

section
/-!
PROOFS. What a change of the Hold Stack leaves of the stack and the drive (chapter 7, R108 to R110), whatever it comes from.
-/

namespace Sys2Proof.Machine

variable {s t : State}

/-! ### The stack's lists -/

theorem unreleased_iff {h : HoldStack} {c : HoldCause} :
    h.unreleased c = true ↔ ∃ r ∈ h.stack, r.cause = c ∧ r.released = false := by
  simp [HoldStack.unreleased]

theorem has_iff {h : HoldStack} {c : HoldCause} : h.has c = true ↔ ∃ r ∈ h.stack, r.cause = c := by
  simp [HoldStack.has]

theorem has_of_unreleased {h : HoldStack} {c : HoldCause} (hu : h.unreleased c = true) : h.has c = true := by
  obtain ⟨r, hr, hcause, -⟩ := unreleased_iff.1 hu
  exact has_iff.2 ⟨r, hr, hcause⟩

theorem reviveIn_causes (stack : List HoldRecord) (cause : HoldCause) (now : Time) (lost : Option Nat) :
    (reviveIn stack cause now lost).map (fun r => r.cause) = stack.map (fun r => r.cause) := by
  simp only [reviveIn, List.map_map]
  refine List.map_congr_left fun r _ => ?_
  simp only [Function.comp]
  split <;> rfl

/-- A record revived in its place is unreleased, and every other record stands (R118). -/
theorem unreleased_reviveIn {h : HoldStack} {cause c : HoldCause} {now : Time} {lost : Option Nat} :
    HoldStack.unreleased { h with stack := reviveIn h.stack cause now lost } c = true ↔
      if c = cause then h.has cause = true else h.unreleased c = true := by
  split
  · rename_i hc
    subst hc
    refine ⟨fun hu => ?_, fun hhas => ?_⟩
    · obtain ⟨r, hr, hcause, -⟩ := unreleased_iff.1 hu
      obtain ⟨x, hx, rfl⟩ := List.mem_map.1 hr
      refine has_iff.2 ⟨x, hx, ?_⟩
      split at hcause
      · assumption
      · exact hcause
    · obtain ⟨r, hr, hcause⟩ := has_iff.1 hhas
      exact unreleased_iff.2 ⟨r.revived now lost, List.mem_map.2 ⟨r, hr, if_pos hcause⟩, hcause, rfl⟩
  · rename_i hc
    simp only [unreleased_iff, reviveIn, List.mem_map, exists_exists_and_eq_and]
    refine exists_congr fun r => and_congr_right fun _ => ?_
    by_cases hr : r.cause = cause
    · have hne : cause ≠ c := Ne.symm hc
      simp [hr, HoldRecord.revived, hne]
    · simp [hr]

theorem unreleased_cons {h : HoldStack} {r : HoldRecord} {c : HoldCause} (hr : r.released = false) :
    HoldStack.unreleased { h with stack := r :: h.stack } c = true ↔ r.cause = c ∨ h.unreleased c = true := by
  simp [HoldStack.unreleased, hr]

theorem mem_popCascade {l : List HoldRecord} {r : HoldRecord} (hr : r.released = false) :
    r ∈ popCascade l ↔ r ∈ l := by
  refine ⟨fun h => (List.dropWhile_sublist _).mem h, fun h => ?_⟩
  rw [← List.takeWhile_append_dropWhile (p := fun r : HoldRecord => r.released) (l := l), List.mem_append] at h
  rcases h with h | h
  · exact absurd (List.mem_takeWhile_imp h) (by simp [hr])
  · exact h

/-- A record marked released and popped is unreleased no longer, and every other record stands (R121, R122). -/
theorem unreleased_popCascade {h : HoldStack} {cause c : HoldCause} :
    HoldStack.unreleased { h with stack := popCascade (markReleased h.stack cause) } c = true ↔
      c ≠ cause ∧ h.unreleased c = true := by
  simp only [unreleased_iff]
  constructor
  · rintro ⟨r, hr, hcause, hrel⟩
    obtain ⟨x, hx, rfl⟩ := List.mem_map.1 ((mem_popCascade hrel).1 hr)
    split at hrel
    · exact absurd hrel nofun
    · rename_i hne
      rw [if_neg hne] at hcause
      exact ⟨hcause ▸ hne, x, hx, hcause, hrel⟩
  · rintro ⟨hne, r, hr, hcause, hrel⟩
    have hmarked : r ∈ markReleased h.stack cause := List.mem_map.2 ⟨r, hr, if_neg (hcause ▸ hne)⟩
    exact ⟨r, (mem_popCascade hrel).2 hmarked, hcause, hrel⟩

theorem popCascade_causes (stack : List HoldRecord) (cause : HoldCause) :
    ((popCascade (markReleased stack cause)).map (fun r => r.cause)).Sublist (stack.map (fun r => r.cause)) := by
  have hmarked : (markReleased stack cause).map (fun r => r.cause) = stack.map (fun r => r.cause) := by
    simp only [markReleased, List.map_map]
    refine List.map_congr_left fun r _ => ?_
    simp only [Function.comp]
    split <;> rfl
  rw [← hmarked]
  exact (List.dropWhile_sublist _).map _

/-! ### The effect of a change -/

theorem stackClosed_eq_false : s.stackClosed = false ↔ s.loading = false ∧ s.holds.lockout = .none := by
  rw [stackClosed_eq_false_iff]
  simp only [ne_eq, mode_eq_lockout_iff]
  unfold State.mode deriveMode
  cases s.loading
  · by_cases h : s.holds.lockout = .none
    · simp only [h]
      cases s.spacing.role <;> (repeat' split) <;> simp_all [Role.asMode]
    · simp [h]
  · simp

/-- A drive that a kill notice or a lockout notice has stopped (R108, R110). -/
structure DriveUnit.KilledTo (d d' : DriveUnit) : Prop where
  sound : d.Sound → d'.Sound
  stopped : d'.Stopped
  flag : d'.obstructionKill = true ∨ d'.obstructionKill = d.obstructionKill

/-- The drive after a push: stopped with its kill flag by OBSTRUCTION, and else as it stood. -/
def DriveUnit.PushedTo (d : DriveUnit) (cause : HoldCause) (d' : DriveUnit) : Prop :=
  (cause ≠ .obstruction ∧ d' = d) ∨ (cause = .obstruction ∧ d.KilledTo d' ∧ d'.obstructionKill = true)

/-- What a change of the Hold Stack, or of a relation, leaves of the stack and the drive. -/
inductive HoldEffect (s : State) : HoldStack → DriveUnit → Prop where
  | same : HoldEffect s s.holds s.drive
  | revived (cause : HoldCause) (lost : Option Nat) (d : DriveUnit) (hopen : s.stackClosed = false)
      (hhas : s.holds.has cause = true) (hd : s.drive.PushedTo cause d) :
      HoldEffect s { s.holds with stack := reviveIn s.holds.stack cause s.time lost } d
  | placed (r : HoldRecord) (d : DriveUnit) (hopen : s.stackClosed = false) (hnew : s.holds.has r.cause = false)
      (hroom : s.holds.stack.length < 4) (hr : r.released = false) (hd : s.drive.PushedTo r.cause d) :
      HoldEffect s { s.holds with stack := r :: s.holds.stack } d
  | overrun (d : DriveUnit) (hopen : s.stackClosed = false) (hd : s.drive.KilledTo d) (hfull : 4 ≤ s.holds.stack.length) :
      HoldEffect s { s.holds with lockout := .holdOverrun } d
  | released (cause : HoldCause) (hopen : s.stackClosed = false) (hheld : s.holds.unreleased cause = true) :
      HoldEffect s { s.holds with stack := popCascade (markReleased s.holds.stack cause) }
        (if cause = .obstruction then { s.drive with obstructionKill := false } else s.drive)

theorem DriveUnit.killedTo_kill (d : DriveUnit) : d.KilledTo d.kill := ⟨kill_sound, d.kill_stopped, .inr rfl⟩

theorem DriveUnit.killedTo_flagged (d : DriveUnit) : d.KilledTo { d.kill with obstructionKill := true } :=
  ⟨fun h => kill_sound h, d.kill_stopped, .inl rfl⟩

theorem DriveUnit.KilledTo.kill {d e : DriveUnit} (h : d.KilledTo e) : d.KilledTo e.kill :=
  ⟨fun hd => kill_sound (h.sound hd), e.kill_stopped, h.flag⟩

theorem DriveUnit.KilledTo.flagged {d e : DriveUnit} (h : d.KilledTo e) :
    d.KilledTo { e.kill with obstructionKill := true } :=
  ⟨fun hd => kill_sound (h.sound hd), e.kill_stopped, .inl rfl⟩

theorem effect_push {cause : HoldCause} (hcause : cause ≠ .obstruction) (lost : Option Nat) :
    HoldEffect s (pushHold cause lost s).holds (pushHold cause lost s).drive := by
  rcases pushHold_holds_drive s cause lost with ⟨-, hh, hd⟩ | ⟨hopen, hhas, hh, hd⟩ | ⟨hopen, hnew, hroom, hh, hd⟩ |
    ⟨hopen, -, hfull, hh, hd⟩ <;> rw [hh, hd]
  · exact .same
  · exact .revived cause lost _ hopen hhas (.inl ⟨hcause, rfl⟩)
  · exact .placed (newHold cause lost s) _ hopen hnew hroom rfl (.inl ⟨hcause, rfl⟩)
  · exact .overrun _ hopen s.drive.killedTo_kill hfull

theorem effect_release (cause : HoldCause) : HoldEffect s (releaseHold cause s).holds (releaseHold cause s).drive := by
  rcases releaseHold_holds_drive s cause with ⟨-, hh, hd⟩ | ⟨hopen, hheld, hh, hd⟩ <;> rw [hh, hd]
  · exact .same
  · exact .released cause hopen hheld

theorem effect_activate : HoldEffect s (obstructionActivation s).holds (obstructionActivation s).drive := by
  rcases obstructionActivation_cases s with ⟨-, h⟩ | ⟨hopen, t, ht, h⟩ <;> rw [h]
  · exact .same
  have hflagged : s.drive.PushedTo .obstruction { s.drive.kill with obstructionKill := true } :=
    .inr ⟨rfl, s.drive.killedTo_flagged, rfl⟩
  rcases ht with rfl | rfl
  · show HoldEffect s (pushHold .obstruction none (s.setFreeCount (s.freeCount + 1))).holds
      { (pushHold .obstruction none (s.setFreeCount (s.freeCount + 1))).drive.kill with obstructionKill := true }
    rcases pushHold_holds_drive (s.setFreeCount (s.freeCount + 1)) .obstruction none with ⟨hclosed, -, -⟩ |
      ⟨-, hhas, hh, hd⟩ | ⟨-, hnew, hroom, hh, hd⟩ | ⟨-, -, hfull, hh, hd⟩
    · exact absurd (hopen.symm.trans hclosed) (by decide)
    all_goals rw [hh, hd]
    · exact .revived .obstruction none _ hopen hhas hflagged
    · exact .placed (newHold .obstruction none _) _ hopen hnew hroom rfl hflagged
    · exact .overrun _ hopen s.drive.killedTo_kill.flagged hfull
  · show HoldEffect s (pushHold .obstruction none _).holds (pushHold .obstruction none _).drive
    rcases pushHold_holds_drive (obstructionKillNotice (spacingKillNotice (s.setFreeCount (s.freeCount + 1)))) .obstruction
      none with ⟨hclosed, -, -⟩ | ⟨-, hhas, hh, hd⟩ | ⟨-, hnew, hroom, hh, hd⟩ | ⟨-, -, hfull, hh, hd⟩
    · exact absurd (hopen.symm.trans hclosed) (by decide)
    all_goals rw [hh, hd]
    · exact .revived .obstruction none _ hopen hhas hflagged
    · exact .placed (newHold .obstruction none _) _ hopen hnew hroom rfl hflagged
    · exact .overrun _ hopen s.drive.killedTo_flagged.kill hfull

/-- A change of the stack is that of the station with other records. -/
theorem HoldEffect.of_narrow {n : NarrowUnit} {h : HoldStack} {d : DriveUnit} (he : HoldEffect (s.setNarrow n) h d) :
    HoldEffect s h d := by
  cases he with
  | same => exact .same
  | revived cause lost d hopen hhas hd => exact .revived cause lost d hopen hhas hd
  | placed r d hopen hnew hroom hr hd => exact .placed r d hopen hnew hroom hr hd
  | overrun d hopen hd hfull => exact .overrun d hopen hd hfull
  | released cause hopen hheld => exact .released cause hopen hheld

theorem effect_releaseWaitIf (b : Bool) : HoldEffect s (releaseWaitIf b s).holds (releaseWaitIf b s).drive := by
  rcases releaseWaitIf_cases s b with h | ⟨-, h⟩ <;> rw [h]
  · exact .same
  · exact effect_release _

theorem HoldMove.effect (h : HoldMove s t) : HoldEffect s t.holds t.drive := by
  cases h with
  | push cause lost hobst => exact effect_push hobst lost
  | release cause => exact effect_release cause
  | activate => exact effect_activate
  | wait i =>
    rcases enterWaiting_cases s i with ⟨hover, h⟩ | ⟨-, h⟩ <;> rw [h]
    · rw [enterLockout_holds, enterLockout_overrun_drive]
      simp only [State.pushOverruns, Bool.and_eq_true, Bool.not_eq_true', decide_eq_true_eq] at hover
      obtain ⟨⟨hopen, -⟩, hfull⟩ := hover
      exact .overrun _ hopen s.drive.killedTo_kill hfull
    · rw [beaconNowIf_frame]
      exact (effect_push (s := s.setNarrowRecord i (s.narrowRecord i).toWaiting) (by decide) none).of_narrow
  | take i inherited =>
    exact (effect_releaseWaitIf (s := s.setNarrowRecord i ((s.narrowRecord i).toHolding inherited)) _).of_narrow
  | claim i => exact .same
  | drop i =>
    rcases dropRelation_cases s i with ⟨-, h⟩ | ⟨-, h⟩ <;> rw [h]
    · exact .same
    · rw [beaconNowIf_frame]
      exact (effect_releaseWaitIf (s := s.setNarrowRecord i (s.narrowRecord i).toNone) _).of_narrow

end Sys2Proof.Machine
end

section
/-!
PROOFS. The ranges every step keeps (O55), and power-on (O4, O54): each predicate kept by every write and every jump, and so by
every step.
-/

namespace Sys2Proof.Machine

variable {c : Instr} {fresh : Bool} {s t : State}

/-! ### The registers after a jump -/

theorem forall₂_keeps {α : Type} {R : α → α → Prop} {P Q : α → Prop} {l l' : List α} (h : List.Forall₂ R l l')
    (hR : ∀ x y, R x y → P x → Q y) (hP : ∀ x ∈ l, P x) : ∀ y ∈ l', Q y := by
  induction h with
  | nil => simp
  | cons hxy _ ih =>
    simp only [List.forall_mem_cons] at hP ⊢
    exact ⟨hR _ _ hxy hP.1, ih hP.2⟩

theorem failLoad_eq (r : LoadReason) (s : State) :
    failLoad r s =
      (((s.setHolds { s.holds with lockout := .config }).setDrive (s.drive.force .brakeHold)).setAir
        (failLoad r s).air).setLoader { s.loader with phase := .idle, reason := r } := by
  have hdrive : (enterLockout .config s).drive = s.drive.force .brakeHold := noteModeChange_drive _
  have hair : (failLoad r s).air = (enterLockout .config s).air := rfl
  rw [hair, ← hdrive, ← enterLockout_frame]
  rfl

theorem failLoad_air_moved (r : LoadReason) : s.air.MovedTo (failLoad r s).air := enterLockout_air_moved (s := s) .config

theorem DriveUnit.force_brakeHold_sound {d : DriveUnit} (h : d.Sound) : (d.force .brakeHold).Sound := by
  obtain ⟨-, -, hv, hcount, -, -⟩ := h
  have hhold : BridgeOutput.brakeHold.Sound := by decide
  exact ⟨hhold, hhold, hv, hcount, by simp [DriveUnit.force]⟩

/-! ### Position, drive, wait ages, hop -/

theorem Act.positionSound (h : Act s t) (hs : s.PositionSound) : t.PositionSound := by
  unfold State.PositionSound
  rw [h.cfg]
  cases h with
  | road x h => rcases h.posUm with h | h; exacts [h ▸ hs, h]
  | hold t h => exact h.outside.road ▸ hs
  | _ => exact hs

theorem Jump.positionSound (h : Jump c s fresh t) (hs : s.PositionSound) : t.PositionSound := by
  cases h with
  | failed buffer r => rwa [failLoad_eq]
  | loaded image =>
    show onRoad (configOf image) s.road.posUm ≤ (configOf image).lRoad * 1000
    rw [onRoad_eq]
    exact min_le_right _ _
  | powerOn => exact Nat.zero_le _
  | _ => exact hs

theorem HoldEffect.driveSound {h : HoldStack} {d : DriveUnit} (he : HoldEffect s h d) (hs : s.drive.Sound) : d.Sound := by
  have hpushed {cause : HoldCause} {d : DriveUnit} (hd : s.drive.PushedTo cause d) : d.Sound := by
    rcases hd with ⟨-, rfl⟩ | ⟨-, hd, -⟩
    · exact hs
    · exact hd.sound hs
  cases he with
  | same => exact hs
  | revived cause lost d hopen hhas hd => exact hpushed hd
  | placed r d hopen hnew hroom hr hd => exact hpushed hd
  | overrun d hopen hd => exact hd.sound hs
  | released cause => split <;> exact hs

theorem Act.driveSound (h : Act s t) (hs : s.DriveSound) : t.DriveSound := by
  cases h with
  | drive x h => exact h.sound hs
  | hold t h => exact h.effect.driveSound hs
  | _ => exact hs

theorem Jump.driveSound (h : Jump c s fresh t) (hs : s.DriveSound) : t.DriveSound := by
  cases h with
  | powerOn => exact (by decide : DriveUnit.powerOn.Sound)
  | failed buffer r =>
    rw [failLoad_eq]
    exact DriveUnit.force_brakeHold_sound hs
  | loaded image =>
    have hhold : BridgeOutput.brakeHold.Sound := by decide
    obtain ⟨-, -, hrest⟩ := hs
    exact ⟨hhold, hhold, hrest⟩
  | cleared => exact hs
  | _ => exact (by decide : DriveUnit.restarted.Sound)

/-- The narrow records after a write keep their bounds, and the queue its own. -/
theorem Act.narrow_kept (h : Act s t) :
    List.Forall₂ s.RecordBoundsKept s.narrow.records t.narrow.records ∧
    (AnswersWithin s.narrow.queue → AnswersWithin t.narrow.queue) := by
  cases h with
  | narrow x h => exact ⟨h.records.imp fun _ _ h => h.toRecordBoundsKept, h.queue⟩
  | hold t h => exact ⟨h.narrow.1, fun hq => h.narrow.2 ▸ hq⟩
  | _ => exact ⟨List.forall₂_same.2 fun _ _ => .refl _, id⟩

/-- A jump leaves the narrow records and the queue, or every record is idle and the queue empty. -/
theorem Jump.narrow (h : Jump c s fresh t) :
    t.narrow = s.narrow ∨ ((∀ r ∈ t.narrow.records, r = .idle) ∧ (t.narrow.queue = s.narrow.queue ∨ t.narrow.queue = [])) := by
  have hidle {α : Type} (l : List α) : ∀ r ∈ l.map (fun _ => NarrowRecord.idle), r = .idle := by simp
  cases h with
  | cleared => exact .inl rfl
  | powerOn => exact .inr ⟨List.forall_mem_nil _, .inr rfl⟩
  | failed buffer r =>
    rw [failLoad_eq]
    exact .inl rfl
  | loaded image => exact .inr ⟨hidle (configOf image).narrows, .inl rfl⟩
  | _ => exact .inr ⟨hidle s.narrow.records, .inr rfl⟩

theorem Act.waitAgesSound (h : Act s t) (hs : s.WaitAgesSound) : t.WaitAgesSound :=
  forall₂_keeps h.narrow_kept.1 (fun _ _ h => h.waitAge) hs

theorem Jump.waitAgesSound (h : Jump c s fresh t) (hs : s.WaitAgesSound) : t.WaitAgesSound := by
  unfold State.WaitAgesSound
  rcases h.narrow with h | ⟨h, -⟩
  · rwa [h]
  · exact fun r hr => h r hr ▸ Nat.zero_le _

theorem Act.hopSound (h : Act s t) (hs : s.HopSound) : t.HopSound := by
  cases h with
  | order x h => rcases h.hop with h | h; exacts [h.le.trans hs, h]
  | hold t h => rwa [State.HopSound, h.outside.order]
  | _ => exact hs

theorem Jump.hopSound (h : Jump c s fresh t) (hs : s.HopSound) : t.HopSound := by
  cases h with
  | failed buffer r => rwa [failLoad_eq]
  | cleared => exact hs
  | loaded image => exact hs
  | _ => exact Nat.zero_le _

/-! ### The Air Port's registers -/

/-- A draw never leaves the generator at 0 (R30). -/
theorem jitterStep_ne_zero {x : Word16} (h : x ≠ 0#16) : jitterStep x ≠ 0#16 := by
  intro hzero
  have hshift : x >>> 1 = 0#16 := (BitVec.or_eq_zero_iff.1 hzero).1
  have hone : x = 1#16 := by
    have hhalf : x.toNat >>> 1 = 0 := by rw [← BitVec.toNat_ushiftRight, hshift]; rfl
    have hpos : x.toNat ≠ 0 := fun h0 => h (BitVec.eq_of_toNat_eq h0)
    refine BitVec.eq_of_toNat_eq ?_
    rw [Nat.shiftRight_eq_div_pow] at hhalf
    show x.toNat = 1
    omega
  subst hone
  exact absurd hzero (by decide)

theorem jitterSeed_ne_zero (id : Nat) (now : Time) : jitterSeed id now ≠ 0#16 := by
  unfold jitterSeed
  dsimp only
  split
  · decide
  · assumption

theorem rotate_sound {l : List FrameClass} {c : FrameClass} (hc : c ∈ l) (h : l.Nodup ∧ l.length = 3) :
    (rotate l c).Nodup ∧ (rotate l c).length = 3 := by
  obtain ⟨hnodup, hlength⟩ := h
  have hcount : l.countP (fun x => decide (x ≠ c)) = 2 := by
    have hone : l.count c = 1 := List.count_eq_one_of_mem hnodup hc
    have hsplit := List.length_eq_countP_add_countP (fun x : FrameClass => x == c) (l := l)
    simp only [← List.count_eq_countP, hone, hlength, beq_iff_eq] at hsplit
    exact Nat.add_left_cancel (hsplit.symm.trans (by rfl : 3 = 1 + 2))
  refine ⟨List.nodup_append.2 ⟨hnodup.filter _, by simp, by simp⟩, ?_⟩
  rw [rotate, List.length_append, ← List.countP_eq_length_filter, hcount]
  rfl

/-- What a write leaves of the Air Port's generator, rotation and FIRST count. -/
theorem Act.air_moved (h : Act s t) : s.air.MovedTo t.air := by
  cases h with
  | air x h => exact h
  | hold t h => exact h.air
  | _ => exact .refl _

theorem AirPort.MovedTo.sound {a b : AirPort} (h : a.MovedTo b) :
    (a.jitter ≠ 0#16 → b.jitter ≠ 0#16) ∧
    (a.rotation.Nodup ∧ a.rotation.length = 3 → b.rotation.Nodup ∧ b.rotation.length = 3) ∧
    (a.firstCount ≤ 4 → b.firstCount ≤ 4) := by
  refine ⟨fun ha => ?_, fun ha => ?_, h.firstCount.trans⟩
  · rcases h.jitter with h | h <;> rw [h]
    · exact ha
    · exact jitterStep_ne_zero ha
  · rcases h.rotation with h | ⟨c, hc, h⟩ <;> rw [h]
    · exact ha
    · exact rotate_sound hc ha

theorem Jump.jitterSound (h : Jump c s fresh t) (hs : s.JitterSound) : t.JitterSound := by
  cases h with
  | powerOn => exact (by decide : (1#16 : Word16) ≠ 0#16)
  | failed buffer r => exact (failLoad_air_moved r).sound.1 hs
  | loaded image => exact jitterStep_ne_zero (jitterSeed_ne_zero _ _)
  | restarted => exact jitterStep_ne_zero (jitterSeed_ne_zero _ _)
  | _ => exact hs

theorem Jump.rotationSound (h : Jump c s fresh t) (hs : s.RotationSound) : t.RotationSound := by
  cases h with
  | failed buffer r => exact (failLoad_air_moved r).sound.2.1 hs
  | cleared => exact hs
  | loaded image => exact hs
  | _ => exact ⟨(by decide : [FrameClass.object, .ask, .beacon].Nodup), rfl⟩

theorem Jump.firstCountSound (h : Jump c s fresh t) (hs : s.FirstCountSound) : t.FirstCountSound := by
  cases h with
  | failed buffer r => exact (failLoad_air_moved r).sound.2.2 hs
  | cleared => exact hs
  | loaded image => exact hs
  | _ => exact le_refl 4

/-! ### Counters and the lamp timebase -/

theorem countersSound_iff (s : State) : s.CountersSound ↔ ∀ n ∈ s.counters.values, n ≤ 65535 := by
  simp [Counters.values]

theorem Act.counted (h : Act s t) : s.counters.CountedTo t.counters := by
  cases h with
  | counters x h => exact h
  | hold t h => exact h.counters
  | _ => exact .refl _

theorem Act.countersSound (h : Act s t) (hs : s.CountersSound) : t.CountersSound := by
  rw [countersSound_iff] at hs ⊢
  refine forall₂_keeps h.counted (fun x y hxy hx => ?_) hs
  rcases hxy with rfl | rfl
  · exact hx
  · exact min_le_right _ _

theorem zero_countersSound (h : s.counters = .zero) : s.CountersSound := by
  rw [countersSound_iff, h]
  decide

/-- A jump leaves the counters, or zeroes them. -/
theorem Jump.counters (h : Jump c s fresh t) : t.counters = s.counters ∨ t.counters = .zero := by
  cases h with
  | failed buffer r =>
    rw [failLoad_eq]
    exact .inl rfl
  | cleared => exact .inr rfl
  | powerOn => exact .inr rfl
  | _ => exact .inl rfl

theorem Jump.countersSound (h : Jump c s fresh t) (hs : s.CountersSound) : t.CountersSound := by
  rcases h.counters with h | h
  · rw [countersSound_iff] at hs ⊢
    rwa [h]
  · exact zero_countersSound h

theorem Act.timebaseSound (h : Act s t) (hs : s.TimebaseSound) : t.TimebaseSound := by
  cases h with
  | hold t h => rwa [State.TimebaseSound, h.outside.lamps]
  | _ => exact hs

theorem Jump.timebaseSound (h : Jump c s fresh t) (hs : s.TimebaseSound) : t.TimebaseSound := by
  cases h with
  | failed buffer r => rwa [failLoad_eq]
  | powerOn => exact Nat.zero_le _
  | _ => exact hs

/-! ### Speed, throttle, records and asks -/

theorem Act.speedSound (h : Act s t) (hs : s.SpeedSound) : t.SpeedSound := by
  have hmoved : s.SpacingMovedTo t.spacing := by
    cases h with
    | spacing x h => exact h
    | hold t h => exact h.spacing
    | _ => exact .of_parked (.inl rfl)
  unfold State.SpeedSound
  rw [h.cfg, h.loading]
  refine ⟨hmoved.vRef hs.1, fun hload => ?_⟩
  rcases hmoved.loading hload with h | h
  · exact h.trans (hs.2 hload)
  · exact h

theorem Jump.speedSound (h : Jump c s fresh t) (hs : s.SpeedSound) : t.SpeedSound := by
  cases h with
  | cleared => exact hs
  | failed buffer r h =>
    have hload : s.loading = true := by simp [State.loading, h]
    rw [failLoad_eq]
    exact ⟨hs.1, fun _ => hs.2 hload⟩
  | loaded image h =>
    have hload : s.loading = true := by simp [State.loading, h]
    have hzero : (blocksAtLoad (installConfig image s)).spacing.vRef = 0 := hs.2 hload
    exact ⟨hzero ▸ Nat.zero_le _, fun _ => hzero⟩
  | _ => exact ⟨Nat.zero_le _, fun _ => rfl⟩

theorem Act.throttleSound (h : Act s t) (hs : s.ThrottleSound) : t.ThrottleSound := by
  unfold State.ThrottleSound
  rw [h.cfg, h.loading]
  cases h with
  | handset x h =>
    rcases h with h | h | ⟨hload, h⟩
    · exact h ▸ hs
    · exact ⟨h ▸ Nat.zero_le _, fun _ => h⟩
    · exact ⟨h, fun h' => absurd (hload.symm.trans h') (by decide)⟩
  | hold t h => exact h.outside.handset ▸ hs
  | _ => exact hs

theorem Jump.throttleSound (h : Jump c s fresh t) (hs : s.ThrottleSound) : t.ThrottleSound := by
  cases h with
  | cleared => exact hs
  | failed buffer r h =>
    have hload : s.loading = true := by simp [State.loading, h]
    rw [failLoad_eq]
    exact ⟨hs.1, fun _ => hs.2 hload⟩
  | loaded image h =>
    have hload : s.loading = true := by simp [State.loading, h]
    have hzero : (blocksAtLoad (installConfig image s)).handset.throttle = 0 := hs.2 hload
    exact ⟨hzero ▸ Nat.zero_le _, fun _ => hzero⟩
  | _ => exact ⟨Nat.zero_le _, fun _ => rfl⟩

theorem State.TableMovedTo.sound {l : List PeerRecord} (h : s.TableMovedTo l) (hs : ∀ r ∈ s.peers.records, r.Sound) :
    ∀ r ∈ l, r.Sound := by
  rcases h with h | ⟨p, rest, rfl, hsub, -, -, -, hp, -⟩
  · exact fun r hr => hs r (h.mem hr)
  · intro r hr
    rcases (insertRecord_mem p rest r).1 hr with rfl | hr
    · exact hp
    · exact hs r (hsub.mem hr)

theorem Act.recordsSound (h : Act s t) (hs : s.RecordsSound) : t.RecordsSound := by
  obtain ⟨hrecords, hseq⟩ := hs
  cases h with
  | peers x h => exact ⟨h.sound hrecords, hseq⟩
  | order x h =>
    refine ⟨hrecords, ?_⟩
    rcases h.seq with h | h | ⟨r, hr, part, hpart, h⟩
    · exact h ▸ hseq
    · exact h
    · obtain ⟨-, -, -, -, -, -, -, -, -, -, -, -, hparts⟩ := hrecords r hr
      exact h ▸ (hparts part hpart).2.1
  | hold t h => exact ⟨h.outside.peers ▸ hrecords, h.outside.order ▸ hseq⟩
  | _ => exact ⟨hrecords, hseq⟩

theorem Jump.recordsSound (h : Jump c s fresh t) (hs : s.RecordsSound) : t.RecordsSound := by
  cases h with
  | cleared => exact hs
  | failed buffer r =>
    rw [failLoad_eq]
    exact hs
  | loaded image => exact hs
  | _ => exact ⟨List.forall_mem_nil _, Nat.zero_le _⟩

theorem Act.asksSound (h : Act s t) (hs : s.AsksSound) : t.AsksSound := by
  obtain ⟨hhi, hlo, hrecords⟩ := hs
  unfold State.AsksSound
  rw [h.cfg, h.config]
  exact ⟨hhi, hlo, forall₂_keeps h.narrow_kept.1 (fun _ _ h => h.asks hhi hlo) hrecords⟩

theorem clampNat_bounds {lo hi : Nat} (h : lo ≤ hi) (x : Nat) : lo ≤ clampNat lo hi x ∧ clampNat lo hi x ≤ hi := by
  unfold clampNat
  omega

theorem idle_asksWithin (n : Nat) : NarrowRecord.idle.AsksWithin n := ⟨Nat.zero_le 7, fun h => absurd rfl h⟩

theorem Jump.asksSound (h : Jump c s fresh t) (hs : s.AsksSound) : t.AsksSound := by
  have hidle (n : Nat) {α : Type} (l : List α) : ∀ r ∈ l.map (fun _ => NarrowRecord.idle), r.AsksWithin n := by
    intro r hr
    obtain ⟨-, -, rfl⟩ := List.mem_map.1 hr
    exact idle_asksWithin n
  obtain ⟨hhi, hlo, hrecords⟩ := hs
  cases h with
  | cleared => exact ⟨hhi, hlo, hrecords⟩
  | powerOn => exact ⟨Nat.zero_le 7, fun h => absurd rfl h, List.forall_mem_nil _⟩
  | failed buffer r =>
    rw [failLoad_eq]
    exact ⟨hhi, hlo, hrecords⟩
  | loaded image =>
    have hbounds := clampNat_bounds (lo := 2) (hi := 7) (by decide) (rawRoute image .nAsk)
    exact ⟨hbounds.2, fun _ => hbounds.1, hidle _ (configOf image).narrows⟩
  | _ => exact ⟨hhi, hlo, hidle _ s.narrow.records⟩

end Sys2Proof.Machine

namespace Sys2Proof.Proofs
open Sys2Proof.Machine

/-- Settles O55, each range by the lemmas on what a write and a jump keep. -/
theorem stepsKeepTheRanges : Obligations.StepsKeepTheRanges := by
  intro s t h
  have hkeep {P : State → Prop} (hact : ∀ {s t}, Act s t → P s → P t)
      (hjump : ∀ {c s fresh t}, Jump c s fresh t → P s → P t) (hqueue : ∀ s rest, P s → P (s.setPending rest))
      (hclock : ∀ s, P s → P (tick s)) : P s → P t := step_invariant hact hjump hqueue hclock h
  refine ⟨?_, hkeep Act.speedSound Jump.speedSound (fun _ _ => id) fun _ => id,
    hkeep Act.throttleSound Jump.throttleSound (fun _ _ => id) fun _ => id,
    hkeep Act.recordsSound Jump.recordsSound (fun _ _ => id) fun _ => id,
    hkeep Act.asksSound Jump.asksSound (fun _ _ => id) fun _ => id⟩
  rintro ⟨hposition, hdrive, hages, hhop, hjitter, hrotation, hcounters, hfirst, htimebase⟩
  exact ⟨hkeep Act.positionSound Jump.positionSound (fun _ _ => id) (fun _ => id) hposition,
    hkeep Act.driveSound Jump.driveSound (fun _ _ => id) (fun _ => id) hdrive,
    hkeep Act.waitAgesSound Jump.waitAgesSound (fun _ _ => id) (fun _ => id) hages,
    hkeep Act.hopSound Jump.hopSound (fun _ _ => id) (fun _ => id) hhop,
    hkeep (fun h => h.air_moved.sound.1) Jump.jitterSound (fun _ _ => id) (fun _ => id) hjitter,
    hkeep (fun h => h.air_moved.sound.2.1) Jump.rotationSound (fun _ _ => id) (fun _ => id) hrotation,
    hkeep Act.countersSound Jump.countersSound (fun _ _ => id) (fun _ => id) hcounters,
    hkeep (fun h => h.air_moved.sound.2.2) Jump.firstCountSound (fun _ _ => id) (fun _ => id) hfirst,
    hkeep Act.timebaseSound Jump.timebaseSound (fun _ _ => id)
      (fun _ _ => Nat.le_of_lt_succ (Nat.mod_lt _ (by decide))) htimebase⟩

end Sys2Proof.Proofs
end

section
/-!
PROOFS. What every step keeps of the Hold Stack, the answer queue and the Peer Table (O56), of the membership and the
configuration (O57), and of the brakes (O58).
-/

namespace Sys2Proof.Machine

variable {c : Instr} {fresh : Bool} {s t : State}

/-! ### The Hold Stack -/

theorem HoldEffect.stackWithin {h : HoldStack} {d : DriveUnit} (he : HoldEffect s h d) (hs : s.StackSound) :
    h.stack.length ≤ 4 ∧ (h.stack.map (fun r => r.cause)).Nodup := by
  obtain ⟨hlength, hnodup⟩ := hs
  cases he with
  | same => exact ⟨hlength, hnodup⟩
  | revived cause lost d => exact ⟨(List.length_map _).trans_le hlength, by rwa [reviveIn_causes]⟩
  | placed r d hopen hnew hroom =>
    refine ⟨hroom, List.nodup_cons.2 ⟨fun hmem => ?_, hnodup⟩⟩
    obtain ⟨x, hx, hcause⟩ := List.mem_map.1 hmem
    exact absurd (hnew.symm.trans (has_iff.2 ⟨x, hx, hcause⟩)) (by decide)
  | overrun d => exact ⟨hlength, hnodup⟩
  | released cause =>
    have hsub := popCascade_causes s.holds.stack cause
    exact ⟨by simpa using hsub.length_le.trans (by simpa using hlength), hnodup.sublist hsub⟩

theorem Act.holdEffect (h : Act s t) :
    HoldEffect s t.holds t.drive ∨ t.holds = s.holds ∧ s.DriveMovedTo t.drive := by
  cases h with
  | hold t h => exact .inl h.effect
  | drive x h => exact .inr ⟨rfl, h⟩
  | _ => exact .inl .same

theorem Act.stackSound (h : Act s t) (hs : s.StackSound) : t.StackSound := by
  rcases h.holdEffect with h | ⟨h, -⟩
  · exact h.stackWithin hs
  · rwa [State.StackSound, h]

theorem Jump.stackSound (h : Jump c s fresh t) (hs : s.StackSound) : t.StackSound := by
  cases h with
  | failed buffer r =>
    rw [failLoad_eq]
    exact hs
  | cleared => exact hs
  | loaded image => exact hs
  | _ => exact ⟨Nat.zero_le 4, List.nodup_nil⟩

/-! ### The answer queue and the Peer Table -/

theorem Act.answersSound (h : Act s t) (hs : s.AnswersSound) : t.AnswersSound := h.narrow_kept.2 hs

theorem Jump.answersSound (h : Jump c s fresh t) (hs : s.AnswersSound) : t.AnswersSound := by
  unfold State.AnswersSound
  rcases h.narrow with h | ⟨-, h | h⟩ <;> rw [h]
  · exact hs
  · exact hs
  · exact ⟨Nat.zero_le 4, List.nodup_nil⟩

theorem insertRecord_perm (p : PeerRecord) (l : List PeerRecord) : (insertRecord p l).Perm (p :: l) := by
  induction l with
  | nil => exact .refl _
  | cons x xs ih =>
    simp only [insertRecord]
    split
    · exact .refl _
    · exact (ih.cons x).trans (.swap p x xs)

theorem State.TableMovedTo.tableSound {l : List PeerRecord} (h : s.TableMovedTo l) (hs : s.TableSound) :
    l.length ≤ 16 ∧ l.Pairwise (fun a b => a.position < b.position ∨ (a.position = b.position ∧ a.id < b.id)) ∧
    (l.map (fun r => r.id)).Nodup ∧ (∀ r ∈ l, r.id ≠ s.ownId) ∧ (s.loading = true → l = []) := by
  obtain ⟨hlength, hordered, hnodup, hown, hload⟩ := hs
  rcases h with hsub | ⟨p, rest, rfl, hsub, hroom, hne, hpown, -, hrun⟩
  · exact ⟨hsub.length_le.trans hlength, hordered.sublist hsub, hnodup.sublist (hsub.map _), fun r hr => hown r (hsub.mem hr),
      fun h => List.sublist_nil.1 (hload h ▸ hsub)⟩
  · have hperm := insertRecord_perm p rest
    refine ⟨?_, insertRecord_ordered p rest (hordered.sublist hsub) hne, ?_, ?_, fun h => ?_⟩
    · rw [hperm.length_eq, List.length_cons]
      omega
    · refine (hperm.map _).nodup_iff.2 (List.nodup_cons.2 ⟨fun hmem => ?_, hnodup.sublist (hsub.map _)⟩)
      obtain ⟨x, hx, hid⟩ := List.mem_map.1 hmem
      exact hne x hx hid
    · intro r hr
      rcases (insertRecord_mem p rest r).1 hr with rfl | hr
      · exact hpown
      · exact hown r (hsub.mem hr)
    · exact absurd (hrun.symm.trans h) (by decide)

theorem Act.tableSound (h : Act s t) (hs : s.TableSound) : t.TableSound := by
  unfold State.TableSound
  rw [h.loading, State.ownId, h.cfg]
  cases h with
  | peers x h => exact h.tableSound hs
  | hold t h => exact h.outside.peers ▸ hs
  | _ => exact hs

theorem Jump.tableSound (h : Jump c s fresh t) (hs : s.TableSound) : t.TableSound := by
  have hempty {t : State} (h : t.peers.records = []) : t.TableSound := by
    unfold State.TableSound
    simp [h]
  cases h with
  | cleared => exact hs
  | failed buffer r h =>
    have hload : s.loading = true := by simp [State.loading, h]
    rw [failLoad_eq]
    exact hempty (hs.2.2.2.2 hload)
  | loaded image h =>
    have hload : s.loading = true := by simp [State.loading, h]
    exact hempty (hs.2.2.2.2 hload)
  | _ => exact hempty rfl

/-! ### Membership and the configuration -/

theorem Act.spacing_moved (h : Act s t) : s.SpacingMovedTo t.spacing := by
  cases h with
  | spacing x h => exact h
  | hold t h => exact h.spacing
  | _ => exact .of_parked (.inl rfl)

theorem Act.membershipSound (h : Act s t) (hs : s.MembershipSound) : t.MembershipSound := by
  unfold State.MembershipSound State.ownId
  rw [h.config, h.cfg]
  intro hconfig
  rcases h.spacing_moved.membership with ⟨hm, hc⟩ | ⟨hm, hc⟩ | ⟨hlo, hhi, hc⟩
  · rw [hm, hc]
    exact hs hconfig
  · exact ⟨hm ▸ Nat.zero_le 15, fun _ => hc, fun _ => hm⟩
  · exact ⟨hhi, fun h => absurd h (by omega), fun h => absurd h hc⟩

theorem Jump.membershipSound (h : Jump c s fresh t) (hs : s.MembershipSound) : t.MembershipSound := by
  cases h with
  | cleared => exact hs
  | powerOn => exact nofun
  | failed buffer r =>
    rw [failLoad_eq]
    exact hs
  | _ => exact fun _ => ⟨Nat.zero_le 15, fun _ => rfl, fun _ => rfl⟩

/-- The lockout cause after a write: it stands, or none stood and it is an overrun's. -/
theorem Act.lockout (h : Act s t) :
    t.holds.lockout = s.holds.lockout ∨
    (s.loading = false ∧ s.holds.lockout = .none ∧ t.holds.lockout = .holdOverrun) := by
  rcases h.holdEffect with h | ⟨h, -⟩
  · generalize t.holds = x at h
    generalize t.drive = d at h
    cases h with
    | overrun d hopen => exact .inr ⟨(stackClosed_eq_false.1 hopen).1, (stackClosed_eq_false.1 hopen).2, rfl⟩
    | _ => exact .inl rfl
  · exact .inl (h ▸ rfl)

theorem Act.configSound (h : Act s t) (hs : s.ConfigSound) : t.ConfigSound := by
  unfold State.ConfigSound
  rw [h.config, h.loading]
  rcases h.lockout with h | ⟨hrun, hnone, h⟩ <;> rw [h]
  · exact hs
  · rw [State.ConfigSound, hrun, hnone] at hs
    rw [hrun]
    simpa using hs.1

theorem Jump.configSound (h : Jump c s fresh t) (hs : s.ConfigSound) : t.ConfigSound := by
  obtain ⟨hconfig, hstart⟩ := hs
  cases h with
  | cleared => exact ⟨hconfig, hstart⟩
  | powerOn => exact ⟨⟨fun _ => .inl rfl, fun _ => rfl⟩, fun _ => rfl⟩
  | failed buffer r h =>
    have hload : s.loading = true := by simp [State.loading, h]
    rw [failLoad_eq]
    exact ⟨⟨fun _ => .inr rfl, fun _ => hconfig.2 (.inl hload)⟩, nofun⟩
  | loaded image h =>
    have hload : s.loading = true := by simp [State.loading, h]
    have hnone : s.holds.lockout ≠ .config := by simp [hstart hload]
    refine ⟨⟨nofun, ?_⟩, nofun⟩
    rintro (h | h)
    · exact absurd h nofun
    · exact absurd h hnone
  | reloaded hc h =>
    have hreloads : s.loading = true ∨ s.holds.lockout = .config := by simpa [State.restartReloads] using h
    exact ⟨⟨fun _ => .inl rfl, fun _ => hconfig.2 hreloads⟩, fun _ => rfl⟩
  | restarted hc h =>
    have hkeeps : ¬(s.loading = true ∨ s.holds.lockout = .config) := by simpa [State.restartReloads] using h
    refine ⟨⟨fun hnone => absurd (hconfig.1 hnone) hkeeps, ?_⟩, fun _ => rfl⟩
    rintro (h | h)
    · exact absurd (.inl h) hkeeps
    · exact absurd h nofun

/-! ### The brakes -/

theorem braked_iff (s : State) : s.Braked ↔ s.drive.Stopped := Iff.rfl

theorem HoldEffect.killSound {h : HoldStack} {d : DriveUnit} (he : HoldEffect s h d) (hs : s.KillSound) :
    (h.unreleased .obstruction = true → d.obstructionKill = true ∧ d.Stopped) ∧
    (d.obstructionKill = true → h.lockout = .none → h.unreleased .obstruction = true) ∧
    (s.loading = true → d.obstructionKill = false) := by
  have hrunning (hopen : s.stackClosed = false) (h : s.loading = true) : d.obstructionKill = false :=
    absurd ((stackClosed_eq_false.1 hopen).1.symm.trans h) (by decide)
  obtain ⟨hheld, hkill, hstart⟩ := hs
  cases he with
  | same => exact ⟨hheld, hkill, hstart⟩
  | revived cause lost d hopen hhas hd =>
    simp only [unreleased_reviveIn]
    refine ⟨fun hu => ?_, fun hk hlock => ?_, hrunning hopen⟩ <;>
      rcases hd with ⟨hne, rfl⟩ | ⟨rfl, hd, hflag⟩
    · exact hheld (by rwa [if_neg hne.symm] at hu)
    · exact ⟨hflag, hd.stopped⟩
    · exact (if_neg hne.symm).mpr (hkill hk hlock)
    · exact (if_pos rfl).mpr hhas
  | placed r d hopen hnew hroom hr hd =>
    simp only [unreleased_cons hr]
    refine ⟨fun hu => ?_, fun hk hlock => ?_, hrunning hopen⟩ <;>
      rcases hd with ⟨hne, rfl⟩ | ⟨hcause, hd, hflag⟩
    · exact hheld (hu.resolve_left hne)
    · exact ⟨hflag, hd.stopped⟩
    · exact .inr (hkill hk hlock)
    · exact .inl hcause
  | overrun d hopen hd =>
    refine ⟨fun hu => ⟨?_, hd.stopped⟩, fun _ h => absurd h nofun, hrunning hopen⟩
    rcases hd.flag with h | h
    · exact h
    · exact h.trans (hheld hu).1
  | released cause hopen =>
    simp only [unreleased_popCascade]
    by_cases hcause : cause = .obstruction
    · simp [hcause]
    · simp only [if_neg hcause]
      exact ⟨fun hu => hheld hu.2, fun hk hlock => ⟨Ne.symm hcause, hkill hk hlock⟩, hstart⟩

theorem Act.killSound (h : Act s t) (hs : s.KillSound) : t.KillSound := by
  unfold State.KillSound
  rw [h.loading]
  rcases h.holdEffect with he | ⟨hh, hd⟩
  · exact he.killSound hs
  · obtain ⟨hheld, hkill, hstart⟩ := hs
    rw [hh, hd.obstructionKill]
    refine ⟨fun hu => ⟨(hheld hu).1, ?_⟩, hkill, hstart⟩
    exact hd.stopped (by simp [State.killActive, (hheld hu).1]) (hheld hu).2

theorem Jump.killSound (h : Jump c s fresh t) (hs : s.KillSound) : t.KillSound := by
  have hclear (hload : s.loading = true) : s.drive.obstructionKill = false ∧ s.holds.unreleased .obstruction = false := by
    obtain ⟨hheld, -, hstart⟩ := hs
    refine ⟨hstart hload, Bool.eq_false_of_not_eq_true fun hu => ?_⟩
    exact absurd ((hheld hu).1.symm.trans (hstart hload)) (by decide)
  have hquiet {t : State} (hu : t.holds.unreleased .obstruction = false) (hk : t.drive.obstructionKill = false) :
      t.KillSound := by
    unfold State.KillSound
    simp [hu, hk]
  cases h with
  | cleared => exact hs
  | failed buffer r h =>
    obtain ⟨hk, hu⟩ := hclear (by simp [State.loading, h])
    rw [failLoad_eq]
    exact hquiet hu hk
  | loaded image h =>
    obtain ⟨hk, hu⟩ := hclear (by simp [State.loading, h])
    exact hquiet hu hk
  | _ => exact hquiet rfl rfl

theorem HoldEffect.stopped_of_lockout {h : HoldStack} {d : DriveUnit} (he : HoldEffect s h d)
    (hlock : h.lockout ≠ .none) : d = s.drive ∧ h = s.holds ∨ d.Stopped := by
  cases he with
  | same => exact .inl ⟨rfl, rfl⟩
  | overrun d hopen hd => exact .inr hd.stopped
  | revived cause lost d hopen => exact absurd (stackClosed_eq_false.1 hopen).2 hlock
  | placed r d hopen => exact absurd (stackClosed_eq_false.1 hopen).2 hlock
  | released cause hopen => exact absurd (stackClosed_eq_false.1 hopen).2 hlock

theorem Act.lockoutSound (h : Act s t) (hs : s.LockoutSound) : t.LockoutSound := by
  intro hmode
  obtain ⟨hload, hlock⟩ := mode_eq_lockout_iff.1 hmode
  rw [h.loading] at hload
  show t.drive.Stopped
  rcases h.holdEffect with he | ⟨hh, hd⟩
  · rcases he.stopped_of_lockout hlock with ⟨hd, hh⟩ | h
    · exact hd ▸ hs (mode_eq_lockout_iff.2 ⟨hload, hh ▸ hlock⟩)
    · exact h
  · have hmode : s.mode = .lockout := mode_eq_lockout_iff.2 ⟨hload, hh ▸ hlock⟩
    exact hd.stopped (by simp [State.killActive, hmode]) (hs hmode)

theorem Jump.lockoutSound (h : Jump c s fresh t) (hs : s.LockoutSound) : t.LockoutSound := by
  intro hmode
  show t.drive.Stopped
  obtain ⟨hload, hlock⟩ := mode_eq_lockout_iff.1 hmode
  cases h with
  | cleared => exact hs hmode
  | failed buffer r =>
    rw [failLoad_eq]
    exact ⟨.inr rfl, rfl⟩
  | loaded image => exact ⟨.inr rfl, rfl⟩
  | _ => exact absurd rfl hlock

end Sys2Proof.Machine

namespace Sys2Proof.Proofs
open Sys2Proof.Machine

/-- Settles O56, by what a write and a jump keep of the stack, the queue and the table. -/
theorem stepsKeepTheStackTheAnswersAndTheTable : Obligations.StepsKeepTheStackTheAnswersAndTheTable :=
  ⟨fun _ _ h => ⟨step_invariant Act.stackSound Jump.stackSound (fun _ _ => id) (fun _ => id) h,
      step_invariant Act.answersSound Jump.answersSound (fun _ _ => id) (fun _ => id) h⟩,
    fun _ _ h => step_invariant Act.tableSound Jump.tableSound (fun _ _ => id) (fun _ => id) h⟩

/-- Settles O57, by what a write and a jump keep of the membership and the configuration. -/
theorem stepsKeepTheMembershipAndTheConfiguration : Obligations.StepsKeepTheMembershipAndTheConfiguration :=
  ⟨fun _ _ h => step_invariant Act.membershipSound Jump.membershipSound (fun _ _ => id) (fun _ => id) h,
    fun _ _ h => step_invariant Act.configSound Jump.configSound (fun _ _ => id) (fun _ => id) h⟩

/-- Settles O58: a write leaves a stopped bridge stopped while the kill path is active, and every push of an obstruction and
every lockout stops it. -/
theorem stepsKeepTheBrakesOn : Obligations.StepsKeepTheBrakesOn :=
  fun _ _ h => ⟨step_invariant Act.killSound Jump.killSound (fun _ _ => id) (fun _ => id) h,
    step_invariant Act.lockoutSound Jump.lockoutSound (fun _ _ => id) (fun _ => id) h⟩

end Sys2Proof.Proofs
end

section
/-!
PROOFS. Every step keeps the route and the relations of the Narrow Unit sound, and a NARROW_WAIT held exactly while one relation
is WAITING (O59).
-/

namespace Sys2Proof.Machine

variable {c : Instr} {fresh : Bool} {s t : State}

/-! ### Entries tested in index order -/

/-- Each entry of a table tested in index order is tested against the entries before it, as they stand after their tests. -/
theorem getElem?_foldl_snoc {α : Type} (f : List α → α → α) (l : List α) (i : Nat) :
    (l.foldl (fun acc a => acc ++ [f acc a]) [])[i]? =
      l[i]?.map (f ((l.foldl (fun acc a => acc ++ [f acc a]) []).take i)) := by
  induction l using List.reverseRecOn generalizing i with
  | nil => simp
  | append_singleton l a ih =>
    have hlength (l : List α) : (l.foldl (fun acc a => acc ++ [f acc a]) []).length = l.length := by
      induction l using List.reverseRecOn with
      | nil => rfl
      | append_singleton l a ih => simp [ih]
    rw [List.foldl_append]
    simp only [List.foldl_cons, List.foldl_nil]
    rcases Nat.lt_trichotomy i l.length with h | rfl | h
    · rw [List.getElem?_append_left (by rwa [hlength]), List.getElem?_append_left h, ih,
        List.take_append_of_le_length (by rw [hlength]; omega)]
    · rw [List.getElem?_append_right (by rw [hlength]), hlength, List.take_append_of_le_length (by rw [hlength]),
        List.take_of_length_le (by rw [hlength])]
      simp
    · rw [List.getElem?_eq_none, List.getElem?_eq_none] <;> simp [hlength] <;> omega

theorem length_foldl_snoc {α : Type} (f : List α → α → α) (l : List α) :
    (l.foldl (fun acc a => acc ++ [f acc a]) []).length = l.length := by
  induction l using List.reverseRecOn with
  | nil => rfl
  | append_singleton l a ih => simp [ih]

theorem getElem?_checkNarrows (lRoad dClaim dStop : Nat) (entries : List NarrowEntry) (i : Nat) :
    (checkNarrows lRoad dClaim dStop entries)[i]? =
      entries[i]?.map fun e =>
        { e with disabled := narrowFault lRoad dClaim dStop ((checkNarrows lRoad dClaim dStop entries).take i) e } :=
  getElem?_foldl_snoc
    (fun (acc : List NarrowEntry) (e : NarrowEntry) => { e with disabled := narrowFault lRoad dClaim dStop acc e }) entries i

/-- A narrow entry that fails no check (R132). -/
theorem narrowFault_eq_none {lRoad dClaim dStop : Nat} {before : List NarrowEntry} {e : NarrowEntry} :
    narrowFault lRoad dClaim dStop before e = none ↔
      e.lo < e.hi ∧ e.hi ≤ lRoad ∧ ∀ x ∈ before, x.disabled = none →
        narrowsOverlap x e = false ∧ dClaim + dStop + 4095 ≤ narrowDistance x e := by
  unfold narrowFault
  dsimp only
  split
  · simp; omega
  split
  · simp; omega
  split
  · rename_i h
    simp only [List.any_eq_true, List.mem_filter, Option.isNone_iff_eq_none] at h
    obtain ⟨x, ⟨hx, hen⟩, hover⟩ := h
    refine iff_of_false nofun fun h => ?_
    exact absurd (hover.symm.trans (h.2.2 x hx hen).1) (by decide)
  split
  · rename_i h
    simp only [List.any_eq_true, List.mem_filter, Option.isNone_iff_eq_none, decide_eq_true_eq] at h
    obtain ⟨x, ⟨hx, hen⟩, hnear⟩ := h
    refine iff_of_false nofun fun h => ?_
    exact absurd (h.2.2 x hx hen).2 (by omega)
  · rename_i horder hrange hover hnear
    simp only [List.any_eq_true, List.mem_filter, Option.isNone_iff_eq_none, decide_eq_true_eq, not_exists, not_and,
      and_imp, Bool.not_eq_true, not_lt] at hover hnear
    exact iff_of_true rfl ⟨not_le.1 horder, not_lt.1 hrange, fun x hx hen => ⟨hover x hx hen, hnear x hx hen⟩⟩

theorem apart_of_checked {a b : NarrowEntry} {d : Nat} (hover : narrowsOverlap a b = false) (hd : d ≤ narrowDistance a b) : a.hi + d ≤ b.lo ∨ b.hi + d ≤ a.lo := by
  simp only [narrowsOverlap, Bool.and_eq_false_iff, decide_eq_false_iff_not] at hover
  unfold narrowDistance at hd
  split at hd <;> omega

/-- The narrows a load gives, each with the fault it has against those before it. -/
theorem checkNarrows_spec {lRoad dClaim dStop : Nat} {entries : List NarrowEntry} {i : Nat} {e : NarrowEntry}
    (h : (checkNarrows lRoad dClaim dStop entries)[i]? = some e) (hen : e.disabled = none) :
    e.lo < e.hi ∧ ∀ x ∈ (checkNarrows lRoad dClaim dStop entries).take i, x.disabled = none →
      narrowsOverlap x e = false ∧ dClaim + dStop + 4095 ≤ narrowDistance x e := by
  rw [getElem?_checkNarrows, Option.map_eq_some_iff] at h
  obtain ⟨r, -, rfl⟩ := h
  obtain ⟨horder, -, hbefore⟩ := narrowFault_eq_none.1 hen
  exact ⟨horder, hbefore⟩

theorem configOf_narrows (image : List Byte) :
    (configOf image).narrows = checkNarrows (configOf image).lRoad (configOf image).dClaim (configOf image).dStop
      ((List.range (narrowCount image)).map (rawNarrow image)) := rfl

theorem configOf_lo_lt_hi (image : List Byte) : ∀ e ∈ (configOf image).narrows, e.disabled = none → e.lo < e.hi := by
  intro e he hen
  obtain ⟨i, hi⟩ := List.mem_iff_getElem?.1 he
  exact (checkNarrows_spec hi hen).1

theorem configOf_narrowsSpaced (image : List Byte) : (configOf image).NarrowsSpaced := by
  refine List.pairwise_iff_getElem.2 fun i j hi hj hij ha hb => ?_
  obtain ⟨-, hbefore⟩ := checkNarrows_spec (List.getElem?_eq_getElem hj) hb
  obtain ⟨hover, hd⟩ := hbefore _ (List.mem_take_iff_getElem.2 ⟨i, Nat.lt_min.2 ⟨hij, hi⟩, rfl⟩) ha
  exact apart_of_checked hover hd

theorem configOf_rig_le (image : List Byte) : (configOf image).lTractor + (configOf image).lTrailer ≤ 4095 := by
  have htractor := (clampNat_bounds (lo := 100) (hi := 2000) (by decide) (rawStation image .lTractor)).2
  have htrailer := (clampNat_bounds (lo := 0) (hi := 2095) (by decide) (rawStation image .lTrailer)).2
  exact Nat.add_le_add htractor htrailer

/-! ### The route -/

theorem Act.routeSound (h : Act s t) (hs : s.RouteSound) : t.RouteSound := by
  obtain ⟨hspaced, horder, hlong, hrig⟩ := hs
  unfold State.RouteSound
  rw [h.cfg]
  refine ⟨hspaced, horder, hlong, ?_⟩
  cases h with
  | road x h =>
    rcases h.rigLength with h | h
    · exact h.trans_le hrig
    · exact h.trans hlong
  | hold t h => rwa [h.outside.road]
  | _ => exact hrig

theorem Jump.routeSound (h : Jump c s fresh t) (hs : s.RouteSound) : t.RouteSound := by
  cases h with
  | cleared => exact hs
  | powerOn => exact ⟨List.Pairwise.nil, List.forall_mem_nil _, Nat.zero_le _, Nat.zero_le _⟩
  | failed buffer r =>
    rw [failLoad_eq]
    exact hs
  | loaded image =>
    exact ⟨configOf_narrowsSpaced image, configOf_lo_lt_hi image, configOf_rig_le image,
      (rigLength_le (configOf image) _).trans (configOf_rig_le image)⟩
  | _ => exact hs

/-! ### The relations -/

/-- The relation with each narrow. -/
def State.relation (s : State) (i : Nat) : Relation := (s.narrowRecord i).relation

/-- The relations, narrow by narrow (R134). -/
theorem relationsSound_iff :
    s.RelationsSound ↔
      s.narrow.records.length = s.cfg.narrows.length ∧
      (∀ i, s.relation i ≠ .none → (s.cfg.enabledNarrow i).isSome = true ∧ ∀ j, j ≠ i → s.relation j = .none) ∧
      (s.loading = true → s.holds.stack = [] ∧ ∀ i, s.relation i = .none) := by
  refine and_congr_right fun _ => and_congr ?_ (imp_congr_right fun _ => and_congr_right fun _ => ?_)
  · refine ⟨fun h i hi => ?_, fun h i _ hi => ?_⟩
    · obtain ⟨hen, hothers⟩ := h i (lt_length_of_relation_ne_none hi) hi
      refine ⟨hen, fun j hji => by_contra fun hj => hji (hothers j (lt_length_of_relation_ne_none hj) hj)⟩
    · obtain ⟨hen, hothers⟩ := h i hi
      exact ⟨hen, fun j _ hj => by_contra fun hji => hj (hothers j hji)⟩
  · refine ⟨fun h i => ?_, fun h r hr => ?_⟩
    · by_cases hi : i < s.narrow.records.length
      · exact h _ (List.mem_of_getElem? (getElem?_narrowRecord hi))
      · unfold State.relation
        rw [narrowRecord_of_length_le (not_lt.1 hi)]
        rfl
    · obtain ⟨i, hi⟩ := List.mem_iff_getElem?.1 hr
      have := h i
      rwa [State.relation, narrowRecord_eq_of_getElem? hi] at this

/-- A relation is WAITING exactly when the record of some narrow is. -/
theorem waiting_iff : (∃ r ∈ s.narrow.records, r.relation = .waiting) ↔ ∃ i, s.relation i = .waiting := by
  constructor
  · rintro ⟨r, hr, h⟩
    obtain ⟨i, hi⟩ := List.mem_iff_getElem?.1 hr
    exact ⟨i, by rw [State.relation, narrowRecord_eq_of_getElem? hi, h]⟩
  · rintro ⟨i, h⟩
    have hi := lt_length_of_relation_ne_none (s := s) (i := i) (fun hnone => nomatch h.symm.trans hnone)
    exact ⟨_, List.mem_of_getElem? (getElem?_narrowRecord hi), h⟩

theorem relation_of_forall₂ {n : NarrowUnit} (h : List.Forall₂ s.RecordMovedTo s.narrow.records n.records) (i : Nat) :
    (s.setNarrow n).relation i = s.relation i := by
  by_cases hi : i < s.narrow.records.length
  · have hi' : i < n.records.length := h.length_eq ▸ hi
    have hrecord := (List.forall₂_iff_get.1 h).2 i hi hi'
    rw [State.relation, State.relation, narrowRecord_eq_of_getElem? (s := s.setNarrow n) (List.getElem?_eq_getElem hi'),
      narrowRecord_eq_of_getElem? (List.getElem?_eq_getElem hi)]
    exact hrecord.relation
  · have hi' : n.records.length ≤ i := h.length_eq ▸ not_lt.1 hi
    rw [State.relation, State.relation, narrowRecord_of_length_le (s := s.setNarrow n) hi',
      narrowRecord_of_length_le (not_lt.1 hi)]

/-- What a write may do to the relations: none changes, or one is dropped, or one that may be taken changes. -/
inductive State.RelationsMovedTo (s t : State) : Prop where
  | same (h : ∀ j, t.relation j = s.relation j)
  | dropped (i : Nat) (hi : t.relation i = .none) (h : ∀ j, j ≠ i → t.relation j = s.relation j)
  | taken (i : Nat) (hmay : s.RouteSound → s.RelationsSound → s.MayTake i) (h : ∀ j, j ≠ i → t.relation j = s.relation j)

theorem relation_of_narrow_eq (h : t.narrow = s.narrow) (j : Nat) : t.relation j = s.relation j :=
  congrArg NarrowRecord.relation (narrowRecord_congr h j)

theorem relation_of_set {i : Nat} {r : NarrowRecord} (h : t.narrow = (s.setNarrowRecord i r).narrow) {j : Nat} (hj : j ≠ i) :
    t.relation j = s.relation j :=
  (relation_of_narrow_eq h j).trans (congrArg NarrowRecord.relation (narrowRecord_setNarrowRecord_ne s r hj.symm))

theorem obstructionActivation_narrow : (obstructionActivation s).narrow = s.narrow := by
  rcases obstructionActivation_cases s with ⟨-, h⟩ | ⟨-, t, ht, h⟩ <;> rw [h]
  rcases ht with rfl | rfl
  · exact pushHold_narrow (s := s.setFreeCount (s.freeCount + 1)) _ _
  · exact pushHold_narrow _ _

/-- The records after a change into WAITING, where its push does not overrun. -/
theorem enterWaiting_records {i : Nat} (h : s.pushOverruns .narrowWait = false) :
    (enterWaiting i s).narrow.records = (s.setNarrowRecord i (s.narrowRecord i).toWaiting).narrow.records := by
  unfold enterWaiting
  rw [if_neg (by simp [h])]
  dsimp only
  rw [beaconNowIf_frame]
  show (pushHold .narrowWait none (s.setNarrowRecord i (s.narrowRecord i).toWaiting)).narrow.records = _
  rw [pushHold_narrow]

theorem enterWaiting_overruns {i : Nat} (h : s.pushOverruns .narrowWait = true) : (enterWaiting i s).narrow = s.narrow := by
  unfold enterWaiting
  rw [if_pos h, pushHold_narrow]

theorem relation_congr_records (h : t.narrow.records = s.narrow.records) (j : Nat) : t.relation j = s.relation j := by
  unfold State.relation State.narrowRecord NarrowUnit.record
  rw [h]

theorem HoldMove.relations (h : HoldMove s t) : s.RelationsMovedTo t := by
  cases h with
  | push cause lost => exact .same (relation_of_narrow_eq (pushHold_narrow cause lost))
  | release cause => exact .same (relation_of_narrow_eq (releaseHold_narrow cause))
  | activate => exact .same (relation_of_narrow_eq obstructionActivation_narrow)
  | wait i hrun hmay =>
    cases hover : s.pushOverruns .narrowWait with
    | true => exact .same (relation_of_narrow_eq (enterWaiting_overruns hover))
    | false =>
      refine .taken i hmay fun j hj => ?_
      exact (relation_congr_records (enterWaiting_records hover) j).trans (relation_of_set rfl hj)
  | take i inherited hrun hmay => exact .taken i hmay fun j hj => relation_of_set (enterHolding_records s i inherited) hj
  | claim i hrun hmay => exact .taken i hmay fun j hj => relation_of_set rfl hj
  | drop i =>
    exact .dropped i (dropRelation_relation_self i) fun j hj => congrArg NarrowRecord.relation (dropRelation_record_ne hj)

theorem Act.relations (h : Act s t) : s.RelationsMovedTo t := by
  cases h with
  | narrow x h => exact .same (relation_of_forall₂ h.records)
  | hold t h => exact h.relations
  | _ => exact .same fun _ => rfl

theorem HoldEffect.holds_of_loading {h : HoldStack} {d : DriveUnit} (he : HoldEffect s h d) (hload : s.loading = true) :
    h = s.holds := by
  cases he with
  | same => rfl
  | _ => exact absurd ((stackClosed_eq_false.1 ‹_›).1.symm.trans hload) (by decide)

/-- A write to a sound set of relations leaves one at most, and that with an enabled narrow. -/
theorem Act.relationsSound (h : Act s t) (hroute : s.RouteSound) (hs : s.RelationsSound) : t.RelationsSound := by
  have hstart (hload : s.loading = true) : t.holds.stack = s.holds.stack := by
    rcases h.holdEffect with he | ⟨hh, -⟩
    · rw [he.holds_of_loading hload]
    · rw [hh]
  obtain ⟨hlength, hone, hnone⟩ := relationsSound_iff.1 hs
  rw [relationsSound_iff, h.cfg, h.loading, ← h.narrow_kept.1.length_eq]
  refine ⟨hlength, ?_⟩
  rcases h.relations with hsame | ⟨i, hi, hothers⟩ | ⟨i, hmay, hothers⟩
  · simp only [hsame]
    exact ⟨hone, fun hload => ⟨(hstart hload).trans (hnone hload).1, (hnone hload).2⟩⟩
  · have hstood {j : Nat} (hj : t.relation j ≠ .none) : j ≠ i ∧ s.relation j ≠ .none := by
      have hji : j ≠ i := fun hji => hj (hji ▸ hi)
      exact ⟨hji, hothers j hji ▸ hj⟩
    refine ⟨fun j hj => ?_, fun hload => ⟨(hstart hload).trans (hnone hload).1, fun j => by_contra fun hj => ?_⟩⟩
    · obtain ⟨hen, hj'⟩ := hone j (hstood hj).2
      exact ⟨hen, fun k hk => by_contra fun hk' => (hstood hk').2 (hj' k hk)⟩
    · exact (hstood hj).2 ((hnone hload).2 j)
  · have hfree : s.loading = false ∧ (s.cfg.enabledNarrow i).isSome = true ∧ ∀ j, j ≠ i → s.relation j = .none := by
      rcases hmay hroute hs with hi | hfree
      · refine ⟨Bool.eq_false_of_not_eq_true fun hload => hi ((hnone hload).2 i), hone i hi⟩
      · exact hfree
    obtain ⟨hrun, hen, hfree⟩ := hfree
    have honly {j : Nat} (hj : t.relation j ≠ .none) : j = i := by
      by_contra hji
      exact hj ((hothers j hji).trans (hfree j hji))
    refine ⟨fun j hj => ⟨honly hj ▸ hen, fun k hk => ?_⟩, fun hload => absurd (hrun.symm.trans hload) (by decide)⟩
    by_contra hk'
    exact hk ((honly hk').trans (honly hj).symm)

theorem relation_of_idle (h : ∀ r ∈ t.narrow.records, r = .idle) (i : Nat) : t.relation i = .none := by
  by_contra hi
  have hlt := lt_length_of_relation_ne_none hi
  rw [State.relation, h _ (List.mem_of_getElem? (getElem?_narrowRecord hlt))] at hi
  exact hi rfl

theorem Jump.relationsSound (h : Jump c s fresh t) (hs : s.RelationsSound) : t.RelationsSound := by
  obtain ⟨hlength, hone, hnone⟩ := relationsSound_iff.1 hs
  have hidle {t : State} (hlen : t.narrow.records.length = t.cfg.narrows.length) (h : ∀ r ∈ t.narrow.records, r = .idle)
      (hstack : t.loading = true → t.holds.stack = []) : t.RelationsSound :=
    relationsSound_iff.2 ⟨hlen, fun i hi => absurd (relation_of_idle h i) hi,
      fun hload => ⟨hstack hload, relation_of_idle h⟩⟩
  have hmap {α : Type} (l : List α) : ∀ r ∈ l.map (fun _ => NarrowRecord.idle), r = .idle := by simp
  cases h with
  | cleared => exact hs
  | powerOn => exact hidle rfl (List.forall_mem_nil _) fun _ => rfl
  | failed buffer r =>
    rw [failLoad_eq, relationsSound_iff]
    exact ⟨hlength, hone, nofun⟩
  | loaded image => exact hidle (List.length_map _) (hmap (configOf image).narrows) nofun
  | _ => exact hidle ((List.length_map _).trans hlength) (hmap s.narrow.records) fun _ => rfl

end Sys2Proof.Machine
end

section
/-!
PROOFS. NARROW_WAIT and WAITING come and go together (R120, R148; O59).
-/

namespace Sys2Proof.Machine

variable {c : Instr} {fresh : Bool} {s t : State}

/-! ### What a change of the stack does to another cause's record -/

theorem pushHold_unreleased_ne {cause other : HoldCause} (h : other ≠ cause) (lost : Option Nat) :
    (pushHold cause lost s).holds.unreleased other = s.holds.unreleased other := by
  rcases pushHold_holds_drive s cause lost with ⟨-, hh, -⟩ | ⟨-, -, hh, -⟩ | ⟨-, -, -, hh, -⟩ | ⟨-, -, -, hh, -⟩ <;> rw [hh]
  · rw [Bool.eq_iff_iff, unreleased_reviveIn, if_neg h]
  · rw [Bool.eq_iff_iff, unreleased_cons rfl]
    exact ⟨fun hu => hu.resolve_left (Ne.symm h), .inr⟩
  · rfl

theorem releaseHold_unreleased_ne {cause other : HoldCause} (h : other ≠ cause) :
    (releaseHold cause s).holds.unreleased other = s.holds.unreleased other := by
  rcases releaseHold_holds_drive s cause with ⟨-, hh, -⟩ | ⟨-, -, hh, -⟩ <;> rw [hh]
  rw [Bool.eq_iff_iff, unreleased_popCascade]
  exact ⟨fun hu => hu.2, fun hu => ⟨h, hu⟩⟩

theorem obstructionActivation_unreleased_ne {other : HoldCause} (h : other ≠ .obstruction) :
    (obstructionActivation s).holds.unreleased other = s.holds.unreleased other := by
  rcases obstructionActivation_cases s with ⟨-, he⟩ | ⟨-, t, ht, he⟩ <;> rw [he]
  rcases ht with rfl | rfl
  · exact pushHold_unreleased_ne (s := s.setFreeCount (s.freeCount + 1)) h none
  · exact pushHold_unreleased_ne (s := obstructionKillNotice (spacingKillNotice (s.setFreeCount (s.freeCount + 1)))) h none

/-- A push that has its effect and no overrun leaves an unreleased record of its cause. -/
theorem pushHold_unreleased_self {cause : HoldCause} (lost : Option Nat) (hopen : s.stackClosed = false)
    (hroom : s.pushOverruns cause = false) : (pushHold cause lost s).holds.unreleased cause = true := by
  rcases pushHold_holds_drive s cause lost with ⟨hclosed, -, -⟩ | ⟨-, hhas, hh, -⟩ | ⟨-, -, -, hh, -⟩ | ⟨-, hnew, hfull, -, -⟩
  · exact absurd (hopen.symm.trans hclosed) (by decide)
  · rw [hh, unreleased_reviveIn, if_pos rfl]
    exact hhas
  · rw [hh, unreleased_cons rfl]
    exact .inl rfl
  · simp [State.pushOverruns, hopen, hnew, hfull] at hroom

theorem releaseHold_unreleased_self {cause : HoldCause} (hopen : s.stackClosed = false) :
    (releaseHold cause s).holds.unreleased cause = false := by
  rcases releaseHold_holds_drive s cause with ⟨hclosed | hfree, hh, -⟩ | ⟨-, -, hh, -⟩
  · exact absurd (hopen.symm.trans hclosed) (by decide)
  · rw [hh, hfree]
  · rw [hh]
    refine Bool.eq_false_of_not_eq_true fun hu => ?_
    exact (unreleased_popCascade.1 hu).1 rfl

/-! ### The pairing -/

theorem pairingSound_iff : s.PairingSound ↔ (s.holds.unreleased .narrowWait = true ↔ ∃ i, s.relation i = .waiting) :=
  iff_congr Iff.rfl waiting_iff

/-- A relation may be taken by a running station that has no other. -/
theorem State.MayTake.running {i : Nat} (hmay : s.MayTake i) (hs : s.RelationsSound) :
    s.loading = false ∧ i < s.narrow.records.length ∧ ∀ j, j ≠ i → s.relation j = .none := by
  obtain ⟨hlength, hone, hnone⟩ := relationsSound_iff.1 hs
  rcases hmay with hi | ⟨hload, hen, hfree⟩
  · exact ⟨Bool.eq_false_of_not_eq_true fun hload => hi ((hnone hload).2 i), lt_length_of_relation_ne_none hi, (hone i hi).2⟩
  · exact ⟨hload, hlength ▸ lt_narrows_of_enabled hen, hfree⟩

theorem stackClosed_of_running (hrun : s.mode ≠ .lockout) (hload : s.loading = false) : s.stackClosed = false :=
  stackClosed_eq_false.2 ⟨hload, by_contra fun h => hrun (mode_eq_lockout_iff.2 ⟨hload, h⟩)⟩

/-- A relation other than WAITING put in place of one, with NARROW_WAIT released where it was WAITING, keeps the pairing. -/
theorem pairing_of_change {i : Nat} {r : NarrowRecord} (hs : s.RelationsSound) (hp : s.PairingSound)
    (hrun : s.mode ≠ .lockout) (hi : i < s.narrow.records.length) (hr : r.relation ≠ .waiting) {h : HoldStack}
    (hh : h = (releaseWaitIf (decide ((s.narrowRecord i).relation = .waiting)) (s.setNarrowRecord i r)).holds)
    (hn : t.narrow = (s.setNarrowRecord i r).narrow) (ht : t.holds = h) : t.PairingSound := by
  have hself : t.relation i ≠ .waiting := by
    rw [State.relation, narrowRecord_congr hn, narrowRecord_setNarrowRecord_self s r hi]
    exact hr
  have hothers {j : Nat} (hj : j ≠ i) : t.relation j = s.relation j := relation_of_set hn hj
  rw [pairingSound_iff] at hp ⊢
  rw [ht, hh]
  by_cases hw : (s.narrowRecord i).relation = .waiting
  · obtain ⟨-, hone, hnone⟩ := relationsSound_iff.1 hs
    have hi' : s.relation i ≠ .none := fun hn => nomatch hw.symm.trans hn
    have hload : s.loading = false := Bool.eq_false_of_not_eq_true fun hload => hi' ((hnone hload).2 i)
    have hreleased : (releaseWaitIf true (s.setNarrowRecord i r)).holds.unreleased .narrowWait = false :=
      releaseHold_unreleased_self (stackClosed_of_running (s := s.setNarrowRecord i r) hrun hload)
    rw [decide_eq_true hw, hreleased]
    refine iff_of_false nofun fun ⟨j, hj⟩ => ?_
    by_cases hji : j = i
    · exact hself (hji ▸ hj)
    · exact nomatch ((hothers hji).trans ((hone i hi').2 j hji)).symm.trans hj
  · rw [decide_eq_false hw]
    refine hp.trans (exists_congr fun j => ?_)
    by_cases hji : j = i
    · exact iff_of_false (hji ▸ hw) (hji ▸ hself)
    · rw [hothers hji]

theorem pairing_of_same (hp : s.PairingSound) (hh : t.holds.unreleased .narrowWait = s.holds.unreleased .narrowWait)
    (hr : ∀ j, t.relation j = s.relation j) : t.PairingSound := by
  rw [pairingSound_iff] at hp ⊢
  simpa only [hh, hr] using hp

theorem HoldMove.pairingSound (h : HoldMove s t) (hroute : s.RouteSound) (hs : s.RelationsSound) (hp : s.PairingSound) :
    t.PairingSound := by
  cases h with
  | push cause lost hobst hwait =>
    exact pairing_of_same hp (pushHold_unreleased_ne hwait.symm lost) (relation_of_narrow_eq (pushHold_narrow cause lost))
  | release cause hwait =>
    exact pairing_of_same hp (releaseHold_unreleased_ne hwait.symm) (relation_of_narrow_eq (releaseHold_narrow cause))
  | activate =>
    exact pairing_of_same hp (obstructionActivation_unreleased_ne (by decide))
      (relation_of_narrow_eq obstructionActivation_narrow)
  | wait i hrun hmay =>
    rcases enterWaiting_cases s i with ⟨hover, h⟩ | ⟨hover, h⟩
    · refine pairing_of_same hp ?_ (relation_of_narrow_eq (enterWaiting_overruns hover))
      rw [h, enterLockout_holds]
      rfl
    · obtain ⟨hload, hi, -⟩ := (hmay hroute hs).running hs
      rw [pairingSound_iff]
      refine iff_of_true ?_ ⟨i, ?_⟩
      · rw [h, beaconNowIf_frame]
        exact pushHold_unreleased_self (s := s.setNarrowRecord i (s.narrowRecord i).toWaiting) none
          (stackClosed_of_running hrun hload) hover
      · rw [relation_congr_records (enterWaiting_records hover), State.relation, narrowRecord_setNarrowRecord_self s _ hi]
        rfl
  | take i inherited hrun hmay =>
    obtain ⟨-, hi, -⟩ := (hmay hroute hs).running hs
    exact pairing_of_change hs hp hrun hi (r := (s.narrowRecord i).toHolding inherited) (by simp [NarrowRecord.toHolding]) rfl
      (enterHolding_records s i inherited) rfl
  | claim i hrun hmay hfree =>
    obtain ⟨-, hi, -⟩ := (hmay hroute hs).running hs
    have hstood : (releaseWaitIf (decide ((s.narrowRecord i).relation = .waiting))
        (s.setNarrowRecord i ((s.narrowRecord i).toAsking s.time))).holds = s.holds := by
      rw [hfree]
      rfl
    exact pairing_of_change hs hp hrun hi (r := (s.narrowRecord i).toAsking s.time) (by simp [NarrowRecord.toAsking])
      hstood.symm rfl rfl
  | drop i hrun =>
    rcases dropRelation_cases s i with ⟨-, h⟩ | ⟨hrel, h⟩
    · rwa [h]
    · refine pairing_of_change hs hp hrun (lt_length_of_relation_ne_none hrel) (r := (s.narrowRecord i).toNone)
        (by simp [NarrowRecord.toNone]) rfl (dropRelation_records s i hrel) ?_
      rw [h, beaconNowIf_holds]

theorem Act.pairingSound (h : Act s t) (hroute : s.RouteSound) (hs : s.RelationsSound) (hp : s.PairingSound) :
    t.PairingSound := by
  cases h with
  | hold t h => exact h.pairingSound hroute hs hp
  | narrow x h => exact pairing_of_same hp rfl (relation_of_forall₂ h.records)
  | _ => exact hp

theorem Jump.pairingSound (h : Jump c s fresh t) (hs : s.RelationsSound) (hp : s.PairingSound) : t.PairingSound := by
  have hquiet {t : State} (hu : t.holds.unreleased .narrowWait = false) (h : ∀ r ∈ t.narrow.records, r = .idle) :
      t.PairingSound := by
    rw [pairingSound_iff, hu]
    exact iff_of_false nofun fun ⟨i, hi⟩ => nomatch (relation_of_idle h i).symm.trans hi
  have hmap {α : Type} (l : List α) : ∀ r ∈ l.map (fun _ => NarrowRecord.idle), r = .idle := by simp
  cases h with
  | cleared => exact hp
  | powerOn => exact hquiet rfl (List.forall_mem_nil _)
  | failed buffer r =>
    rw [failLoad_eq]
    exact hp
  | loaded image h =>
    have hload : s.loading = true := by simp [State.loading, h]
    have hu : s.holds.unreleased .narrowWait = false := by simp [HoldStack.unreleased, (hs.2.2 hload).1]
    exact hquiet hu (hmap (configOf image).narrows)
  | _ => exact hquiet rfl (hmap s.narrow.records)

end Sys2Proof.Machine

namespace Sys2Proof.Proofs
open Sys2Proof.Machine

/-- Settles O59. The spacing of the narrows lets a rig meet one narrow at a time, so a relation is taken only where no other is
held; and each change into or out of WAITING comes with its push or its release. -/
theorem stepsKeepOneRelationAndItsHold : Obligations.StepsKeepOneRelationAndItsHold := by
  intro s t h hroute hs
  have hkept := step_invariant (P := fun s => s.RouteSound ∧ s.RelationsSound)
    (fun h hs => ⟨h.routeSound hs.1, h.relationsSound hs.1 hs.2⟩)
    (fun h hs => ⟨h.routeSound hs.1, h.relationsSound hs.2⟩) (fun _ _ => id) (fun _ => id) h ⟨hroute, hs⟩
  refine ⟨hkept.1, hkept.2, fun hp => ?_⟩
  exact (step_invariant (P := fun s => (s.RouteSound ∧ s.RelationsSound) ∧ s.PairingSound)
    (fun h hs => ⟨⟨h.routeSound hs.1.1, h.relationsSound hs.1.1 hs.1.2⟩, h.pairingSound hs.1.1 hs.1.2 hs.2⟩)
    (fun h hs => ⟨⟨h.routeSound hs.1.1, h.relationsSound hs.1.2⟩, h.pairingSound hs.1.2 hs.2⟩) (fun _ _ => id)
    (fun _ => id) h ⟨⟨hroute, hs⟩, hp⟩).2

end Sys2Proof.Proofs
end

section
/-!
PROOFS. What holds of every command: it completes, it leaves queue and clock, its counters only count, it leaves the lamps as the
state calls for, and in LOCKOUT it leaves holds, orders and relations. And the step that runs it, and power-on.
-/

namespace Sys2Proof.Machine

variable {c : Instr} {fresh : Bool} {s t : State}

/-! ### The shape of a command -/

/-- A command changes nothing, or has its effect and settles the lamps. -/
theorem exec_cases (c : Instr) (s : State) : exec c s = .next s ∨ ∃ u, exec c s = .next (settleLamps u) := by
  have hwhen (due : Bool) (effect : State → State) :
      whenDue due effect s = .next s ∨ ∃ u, whenDue due effect s = .next (settleLamps u) := by
    rcases whenDue_cases s due effect with ⟨-, h⟩ | ⟨-, h⟩
    · exact .inr ⟨_, h⟩
    · exact .inl h
  cases c with
  | loadByteTimeout | loadFailure | loadSuccess | hitchDebounceExpiry | obstDebounceExpiry | receivedFrame | frameTimeout
  | beaconDue | arbiterGrant | busyAttemptTimeout | backoffEnd | radioTimeout | sweep
  | answerExpiry | waitAgeExpiry | channelAbsent | stopTimerExpiry | resetGesture => exact hwhen _ _
  | spacingStep => exact hwhen _ (fun s => spacingStep (s.setSpacing { s.spacing with stepTimer := s.spacing.stepTimer.again 20 }))
  | driveStep => exact hwhen _ (fun s => driveStep (s.setDrive { s.drive with stepTimer := s.drive.stepTimer.again 20 }))
  | narrowStep => exact hwhen _ (fun s => narrowStep (s.setNarrow { s.narrow with stepTimer := s.narrow.stepTimer.again 20 }))
  | askDue =>
    simp only [exec, execAskDue]
    split
    · exact .inl rfl
    · exact .inr ⟨_, rfl⟩
  | answerWindowEnd =>
    simp only [exec, execAnswerWindowEnd]
    split
    · exact .inl rfl
    · exact .inr ⟨_, rfl⟩
  | _ => exact .inr ⟨_, rfl⟩

/-! ### Time and queue -/

theorem Jump.time_pending (h : Jump c s fresh t) (hc : c ≠ .powerOn) : t.time = s.time ∧ t.pending = s.pending := by
  cases h with
  | powerOn h => exact absurd h hc
  | failed buffer r =>
    rw [failLoad_eq]
    exact ⟨rfl, rfl⟩
  | _ => exact ⟨rfl, rfl⟩

theorem Acts.time_pending (h : Acts s t) : t.time = s.time ∧ t.pending = s.pending :=
  ⟨h.keeps _ Act.time, h.keeps _ Act.pending⟩

theorem Run.time_pending (h : Run c s t) (hc : c ≠ .powerOn) : t.time = s.time ∧ t.pending = s.pending := by
  rcases h with h | ⟨a, fresh, b, ha, hb, rfl⟩
  · exact h.time_pending
  · obtain ⟨hat, hap⟩ := ha.time_pending
    obtain ⟨hbt, hbp⟩ := hb.time_pending hc
    obtain ⟨hot, hop⟩ := (acts_takeObstLevel b).time_pending
    split
    · exact ⟨hot.trans (hbt.trans hat), hop.trans (hbp.trans hap)⟩
    · exact ⟨hbt.trans hat, hbp.trans hap⟩

theorem whenDue_of_not_due {due : Bool} {effect : State → State} (h : due ≠ true) : whenDue due effect s = .next s :=
  if_neg h

/-! ### Counters -/

/-- The counters of two states, one by one. -/
abbrev Counters.CountedUp (a b : Counters) : Prop := List.Forall₂ (· ≤ ·) a.values b.values

theorem forall₂_trans {α : Type} {R : α → α → Prop} (htrans : ∀ x y z, R x y → R y z → R x z) {k l m : List α}
    (h : List.Forall₂ R k l) (h' : List.Forall₂ R l m) : List.Forall₂ R k m := by
  induction h generalizing m with
  | nil => exact h'
  | cons hxy _ ih =>
    cases h' with
    | cons hyz h' => exact .cons (htrans _ _ _ hxy hyz) (ih h')

theorem Counters.CountedUp.trans {a b c : Counters} (h : a.CountedUp b) (h' : b.CountedUp c) : a.CountedUp c :=
  forall₂_trans (R := (· ≤ ·)) (fun _ _ _ => Nat.le_trans) h h'

theorem le_bump {n : Nat} (h : n ≤ 65535) : n ≤ bump n := le_min (Nat.le_succ n) h

theorem Act.countedUp (h : Act s t) (hs : s.CountersSound) : s.counters.CountedUp t.counters := by
  have hsound := (countersSound_iff s).1 hs
  have hcounted := h.counted
  unfold Counters.CountedTo at hcounted
  unfold Counters.CountedUp
  generalize s.counters.values = k at *
  generalize t.counters.values = l at *
  induction hcounted with
  | nil => exact .nil
  | cons hxy _ ih =>
    rw [List.forall_mem_cons] at hsound
    refine .cons ?_ (ih hsound.2)
    rcases hxy with rfl | rfl
    · exact le_rfl
    · exact le_bump hsound.1

theorem Acts.countedUp (h : Acts s t) (hs : s.CountersSound) : s.counters.CountedUp t.counters ∧ t.CountersSound := by
  induction h with
  | refl => exact ⟨List.forall₂_same.2 fun _ _ => le_rfl, hs⟩
  | tail _ hlast ih =>
    exact ⟨ih.1.trans (hlast.countedUp ih.2), hlast.countersSound ih.2⟩

/-- A jump that leaves the counters, or one that zeroes them by POWER_ON or CLEAR (R187). -/
theorem Jump.counters_cases (h : Jump c s fresh t) :
    t.counters = s.counters ∨ (t.counters = .zero ∧ fresh = false ∧ (c = .powerOn ∨ IsClear c)) := by
  cases h with
  | failed buffer r =>
    rw [failLoad_eq]
    exact .inl rfl
  | cleared hc => exact .inr ⟨rfl, rfl, .inr hc⟩
  | powerOn hc => exact .inr ⟨rfl, rfl, .inl hc⟩
  | _ => exact .inl rfl

theorem Run.counters_cases (h : Run c s t) :
    (t.counters = .zero ∧ (c = .powerOn ∨ IsClear c)) ∨ (s.CountersSound → s.counters.CountedUp t.counters) := by
  rcases h with h | ⟨a, fresh, b, ha, hb, rfl⟩
  · exact .inr fun hs => (h.countedUp hs).1
  · rcases hb.counters_cases with heq | ⟨hzero, rfl, hc⟩
    · refine .inr fun hs => ?_
      obtain ⟨hup, hsound⟩ := ha.countedUp hs
      have hb : b.CountersSound := by rwa [countersSound_iff, heq, ← countersSound_iff]
      have hjumped : s.counters.CountedUp b.counters := heq ▸ hup
      split
      · exact hjumped.trans ((acts_takeObstLevel b).countedUp hb).1
      · exact hjumped
    · exact .inl ⟨hzero, hc⟩

/-! ### LOCKOUT -/

/-- What LOCKOUT freezes, as a station in LOCKOUT leaves it (R127, R152, R167). -/
structure State.FrozenTo (s t : State) : Prop where
  mode : t.mode = .lockout
  holds : t.holds = s.holds
  order : t.order = s.order
  records : t.narrow.records.map NarrowRecord.standing = s.narrow.records.map NarrowRecord.standing

theorem HoldEffect.holds_of_closed {h : HoldStack} {d : DriveUnit} (he : HoldEffect s h d) (hc : s.stackClosed = true) :
    h = s.holds := by
  cases he with
  | same => rfl
  | _ => exact absurd (hc.symm.trans ‹_›) (by decide)

theorem HoldMove.narrow_of_lockout (h : HoldMove s t) (hmode : s.mode = .lockout) : t.narrow = s.narrow := by
  cases h with
  | push cause lost => exact pushHold_narrow cause lost
  | release cause => exact releaseHold_narrow cause
  | activate => exact obstructionActivation_narrow
  | _ => exact absurd hmode ‹_›

theorem map_eq_of_forall₂ {α β : Type} {f : α → β} {l l' : List α} (h : List.Forall₂ (fun x y => f y = f x) l l') :
    l'.map f = l.map f := by
  induction h with
  | nil => rfl
  | cons hxy _ ih => rw [List.map_cons, List.map_cons, hxy, ih]

theorem Act.frozen (h : Act s t) (hmode : s.mode = .lockout) : s.FrozenTo t := by
  have hclosed : s.stackClosed = true := by simp [State.stackClosed, hmode]
  have hholds : t.holds = s.holds := by
    rcases h.holdEffect with he | ⟨hh, -⟩
    · exact he.holds_of_closed hclosed
    · exact hh
  refine ⟨?_, hholds, ?_, ?_⟩
  · rw [mode_eq_lockout_iff, h.loading, hholds]
    exact mode_eq_lockout_iff.1 hmode
  · cases h with
    | order x h => exact absurd hmode h.running
    | hold t h => exact h.outside.order
    | _ => rfl
  · cases h with
    | narrow x h =>
      exact map_eq_of_forall₂ (h.records.imp fun _ _ h => h.frozen hmode)
    | hold t h => rw [h.narrow_of_lockout hmode]
    | _ => rfl

theorem Acts.frozen (h : Acts s t) (hmode : s.mode = .lockout) : s.FrozenTo t := by
  induction h with
  | refl => exact ⟨hmode, rfl, rfl, rfl⟩
  | tail _ hlast ih =>
    have hnext := hlast.frozen ih.mode
    exact ⟨hnext.mode, hnext.holds.trans ih.holds, hnext.order.trans ih.order, hnext.records.trans ih.records⟩

/-- The OBST level taken afresh on an empty stack locks nothing out. -/
theorem takeObstLevel_lockout (h : s.holds.stack = []) : (takeObstLevel s).holds.lockout = s.holds.lockout := by
  unfold takeObstLevel
  dsimp only
  split
  · have he := effect_activate
      (s := s.setSensors { s.sensors with obstActive := s.conditioning && s.obstRaw, obstTimer := none })
    generalize (obstructionActivation _).holds = x at he ⊢
    generalize (obstructionActivation _).drive = d at he
    cases he with
    | overrun d hopen hd hfull =>
      have hempty : 4 ≤ s.holds.stack.length := hfull
      simp [h] at hempty
    | _ => rfl
  · rfl

/-- A jump out of LOCKOUT: the counters zeroed, power-on, or a restart. -/
theorem Jump.of_lockout (h : Jump c s fresh t) (hmode : s.mode = .lockout) :
    (s.FrozenTo t ∧ fresh = false) ∨ (c = .powerOn ∧ t.mode = .start ∧ fresh = false) ∨
    (IsRestart c ∧ t.holds = .empty) := by
  have hload := (mode_eq_lockout_iff.1 hmode).1
  cases h with
  | cleared => exact .inl ⟨⟨hmode, rfl, rfl, rfl⟩, rfl⟩
  | powerOn hc => exact .inr (.inl ⟨hc, rfl, rfl⟩)
  | failed buffer r h => exact absurd hload (by simp [State.loading, h])
  | loaded image h => exact absurd hload (by simp [State.loading, h])
  | reloaded hc => exact .inr (.inr ⟨hc, rfl⟩)
  | restarted hc => exact .inr (.inr ⟨hc, rfl⟩)

/-- A command in LOCKOUT leaves all that is frozen, or leads out of it. -/
theorem Run.of_lockout (h : Run c s t) (hmode : s.mode = .lockout) :
    s.FrozenTo t ∨ (c = .powerOn ∧ t.mode = .start) ∨ (IsRestart c ∧ t.holds.lockout = .none) := by
  rcases h with h | ⟨a, fresh, b, ha, hb, rfl⟩
  · exact .inl (h.frozen hmode)
  have hfrozen := ha.frozen hmode
  rcases hb.of_lockout hfrozen.mode with ⟨hkept, rfl⟩ | ⟨hc, hstart, rfl⟩ | ⟨hc, hempty⟩
  · exact .inl ⟨hkept.mode, hkept.holds.trans hfrozen.holds, hkept.order.trans hfrozen.order,
      hkept.records.trans hfrozen.records⟩
  · exact .inr (.inl ⟨hc, hstart⟩)
  · refine .inr (.inr ⟨hc, ?_⟩)
    show (if fresh then takeObstLevel b else b).holds.lockout = .none
    split
    · rw [takeObstLevel_lockout (by rw [hempty]; rfl), hempty]
      rfl
    · rw [hempty]
      rfl

end Sys2Proof.Machine

namespace Sys2Proof.Proofs
open Sys2Proof.Machine

/-- Settles O60: a write in LOCKOUT leaves what it freezes, and only power-on and a restart are more than writes there. -/
theorem lockoutFreezesTheStation : Obligations.LockoutFreezesTheStation := by
  intro c s t hmode h
  rcases (run_of_exec h).of_lockout hmode with hfrozen | ⟨hc, hstart⟩ | ⟨hc, hnone⟩
  · exact ⟨fun _ => ⟨hfrozen.holds, hfrozen.order, hfrozen.records⟩, fun hne => absurd hfrozen.mode hne⟩
  · exact ⟨fun h => (nomatch hstart.symm.trans h), fun _ => .inl ⟨hc, hstart⟩⟩
  · exact ⟨fun h => absurd hnone (mode_eq_lockout_iff.1 h).2, fun _ => .inr ⟨hc, hnone⟩⟩

/-- Settles O3: a write counts up, and the jumps that zero the counters are power-on and CLEAR. -/
theorem countersFallOnlyToZero : Obligations.CountersFallOnlyToZero := by
  intro c s t h
  rcases (run_of_exec h).counters_cases with ⟨hzero, hc⟩ | hup
  · exact .inl ⟨hzero, hc⟩
  · refine .inr fun hs => ?_
    simpa [Counters.CountedUp, Counters.values] using hup hs

end Sys2Proof.Proofs
end

section
/-!
PROOFS. The step and the events it runs, the completion of every command, the lamp lines, and power-on.
-/

namespace Sys2Proof.Machine

variable {c : Instr} {s t : State}

/-! ### Own events -/

theorem mem_eventIf {due : Bool} {a : Instr} : c ∈ eventIf due a ↔ due = true ∧ c = a := by
  unfold eventIf
  cases due <;> simp

/-- The commands that stand for an event inside the part, but for the two that change nothing when it has not come about
whatever their test (R107, R176). -/
def ownCommands : List Instr :=
  [.loadByteTimeout, .loadFailure, .loadSuccess, .hitchDebounceExpiry, .obstDebounceExpiry, .receivedFrame, .frameTimeout,
   .beaconDue, .arbiterGrant, .busyAttemptTimeout, .backoffEnd, .radioTimeout, .spacingStep, .driveStep, .sweep, .narrowStep,
   .askDue, .answerWindowEnd, .answerExpiry, .waitAgeExpiry, .channelAbsent .throttle, .channelAbsent .mode,
   .stopTimerExpiry, .resetGesture]

/-- The part's own events with their tests, in the order of their commands. -/
def State.eventTable (s : State) : List (Bool × Instr) :=
  [(s.byteOverdue, .loadByteTimeout), (s.loadFailed, .loadFailure), (s.loadPassed, .loadSuccess),
   (s.hitchDue, .hitchDebounceExpiry), (s.obstDue, .obstDebounceExpiry), (s.frameComplete, .receivedFrame),
   (s.frameOverdue, .frameTimeout), (s.beaconTimeReached, .beaconDue), (s.grantDue, .arbiterGrant),
   (s.busyHeld, .busyAttemptTimeout), (s.backoffOver, .backoffEnd), (s.reportOverdue, .radioTimeout),
   (s.stepDue s.spacing.stepTimer, .spacingStep), (s.stepDue s.drive.stepTimer, .driveStep),
   (s.drive.updatePending, .pwmPeriodEnd), (s.sweepDue, .sweep), (s.stepDue s.narrow.stepTimer, .narrowStep),
   (s.askTime.isSome, .askDue), (s.windowTime.isSome, .answerWindowEnd), (s.answerDue, .answerExpiry),
   (s.narrow.waitAgeTimer.ranFor s.time 100, .waitAgeExpiry), (s.channelSilent .throttle, .channelAbsent .throttle),
   (s.channelSilent .mode, .channelAbsent .mode), (s.stopHeldLong, .stopTimerExpiry), (s.resetHeldLong, .resetGesture),
   (s.lampBoundary, .lampTimebaseBoundary)]

theorem ownEvents_eq (s : State) : s.ownEvents = s.eventTable.flatMap fun e => eventIf e.1 e.2 := by
  rw [List.flatMap_eq_foldl]
  rfl

/-- The test of an event that is not among those come about has failed. -/
theorem not_due_of_not_own {due : Bool} (i : Nat) (hi : s.eventTable[i]? = some (due, c)) (h : c ∉ s.ownEvents) :
    due = false := by
  refine Bool.eq_false_of_not_eq_true fun hdue => h ?_
  rw [ownEvents_eq, List.mem_flatMap]
  exact ⟨(due, c), List.mem_of_getElem? hi, mem_eventIf.2 ⟨hdue, rfl⟩⟩

/-- Each command that stands for an event has the test of its event, and changes nothing where that fails. -/
theorem exec_of_not_own (hc : c ∈ ownCommands) (h : c ∉ s.ownEvents) : exec c s = .next s := by
  have quiet {due : Bool} {effect : State → State} (i : Nat) (hi : s.eventTable[i]? = some (due, c)) :
      whenDue due effect s = .next s := whenDue_of_not_due (by simp [not_due_of_not_own i hi h])
  simp only [ownCommands, List.mem_cons, List.not_mem_nil, or_false] at hc
  rcases hc with rfl | rfl | rfl | rfl | rfl | rfl | rfl | rfl | rfl | rfl | rfl | rfl | rfl | rfl | rfl | rfl | rfl | rfl |
    rfl | rfl | rfl | rfl | rfl | rfl
  · exact quiet 0 rfl
  · exact quiet 1 rfl
  · exact quiet 2 rfl
  · exact quiet 3 rfl
  · exact quiet 4 rfl
  · exact quiet 5 rfl
  · exact quiet 6 rfl
  · exact quiet 7 rfl
  · exact quiet 8 rfl
  · exact quiet 9 rfl
  · exact quiet 10 rfl
  · exact quiet 11 rfl
  · exact quiet (effect := fun s => spacingStep _) 12 rfl
  · exact quiet (effect := fun s => driveStep _) 13 rfl
  · exact quiet 15 rfl
  · exact quiet (effect := fun s => narrowStep _) 16 rfl
  · have hnone : s.askTime = none := by simpa using not_due_of_not_own 17 rfl h
    simp [exec, execAskDue, hnone]
  · have hnone : s.windowTime = none := by simpa using not_due_of_not_own 18 rfl h
    simp [exec, execAnswerWindowEnd, hnone]
  · exact quiet 19 rfl
  · exact quiet 20 rfl
  · exact quiet 21 rfl
  · exact quiet 22 rfl
  · exact quiet 23 rfl
  · exact quiet 24 rfl

/-- The own event taken is one of those that have come about. -/
theorem ownEvent_mem (h : 2 ≤ s.ownEvents.length) : ∃ c ∈ s.ownEvents, s.ownEvent = some c := by
  unfold State.ownEvent
  generalize s.ownEvents = l at *
  match l, h with
  | a :: b :: l, _ =>
    refine ⟨_, ?_, rfl⟩
    have hlt : Config.freeChoice s.freeCount % (a :: b :: l).length < (a :: b :: l).length := Nat.mod_lt _ (by simp)
    show (a :: b :: l).getD (Config.freeChoice s.freeCount % (a :: b :: l).length) a ∈ _
    rw [List.getD_eq_getElem _ _ hlt]
    exact List.getElem_mem hlt

/-! ### The lamp lines -/

/-- Lamps settled are as the state calls for, and stay so when settled again. -/
theorem settleLamps_lampsSound (s : State) : (settleLamps s).LampsSound := rfl

theorem fitted_drive (fit : Bool) (p : Pattern) (tb : Nat) :
    (s.fitted fit p).drive tb = if s.config = none ∨ fit = false then .undriven else p.drive tb := by
  unfold State.fitted
  cases s.config <;> cases fit <;> rfl

theorem onIf_drive (b : Bool) (tb : Nat) : (Pattern.onIf b).drive tb = if b = true then .on else .off := by
  cases b <;> rfl

theorem flashInv_drive (tb : Nat) : Pattern.flashInv.drive tb = if tb ≤ 499 then .off else .on := by
  simp only [Pattern.drive]
  by_cases h : tb ≤ 499
  · rw [if_neg (by omega), if_pos h]
  · rw [if_pos (by omega), if_neg h]

theorem braked_eq_true (o : BridgeOutput) : o.braked = true ↔ o.state = .brake ∨ o.state = .brakeHold := by
  simp [BridgeOutput.braked]

theorem brakePattern_drive (tb : Nat) :
    s.brakePattern.drive tb =
      if s.mode = .lockout then (if tb ≤ 499 then .off else .on)
      else if (s.drive.applied.state = .brake ∨ s.drive.applied.state = .brakeHold) ∨
        (s.mode ≠ .start ∧ s.spacing.braking = true) then .on
      else .off := by
  unfold State.brakePattern State.brakeLampOn
  cases s.mode <;> simp [flashInv_drive, onIf_drive, braked_eq_true]

theorem amberPattern_drive (tb : Nat) :
    s.amberPattern.drive tb =
      if s.mode = .lockout ∨ s.mode = .wait then (if tb ≤ 499 then .on else .off)
      else if s.mode = .halt then .on
      else if s.mode = .head ∧ s.road.quality = .unknown then (if tb % 250 ≤ 124 then .on else .off)
      else .off := by
  unfold State.amberPattern
  by_cases hq : s.road.quality = .unknown <;> cases s.mode <;> simp [Pattern.drive, hq]

theorem headPattern_drive (tb : Nat) :
    s.headPattern.drive tb =
      if s.mode = .lockout then (if tb ≤ 499 then .on else .off)
      else if s.mode = .start ∨ s.mode = .parked then .off
      else .on := by
  unfold State.headPattern
  cases s.mode <;> simp [Pattern.drive]

end Sys2Proof.Machine

namespace Sys2Proof.Proofs
open Sys2Proof.Machine

/-- Settles O1, by the branches of a step. -/
theorem stepRunsTheFrontCommand : Obligations.StepRunsTheFrontCommand := by
  refine ⟨fun c rest s => rfl, fun c s hpending hown => ?_, fun s hpending htwo => ?_, fun s hpending hown => ?_⟩
  · simp [step, hpending, State.ownEvent, State.afterChoice, hown]
  · obtain ⟨c, hc, hown⟩ := ownEvent_mem htwo
    refine ⟨c, hc, ?_⟩
    show step s = exec c (s.setFreeCount (s.freeCount + 1))
    simp only [step, hpending, hown, State.afterChoice, if_pos htwo]
  · show step s = .next (tick s)
    simp only [step, hpending, State.ownEvent, hown]

/-- Settles O2: a command is a chain of writes or a jump, which leave queue and clock; and its own test is that of its event. -/
theorem everyCommandCompletes : Obligations.EveryCommandCompletes := by
  refine ⟨fun c s => ?_, fun c s hc hnot => ?_⟩
  · by_cases hpower : c = .powerOn
    · subst hpower
      exact ⟨_, rfl, rfl, rfl⟩
    · obtain ⟨t, ht, hrun⟩ := exec_run c s
      obtain ⟨htime, hpending⟩ := hrun.time_pending hpower
      exact ⟨t, ht, hpending, by rw [if_neg hpower, htime]⟩
  · exact exec_of_not_own hc hnot

/-- Settles O4: the power-on state is written out in the model. -/
theorem powerOnSetsEveryBlock : Obligations.PowerOnSetsEveryBlock := fun _ => rfl

/-- Settles O51: each pattern by the mode, and every command that changes anything settles the lines at its end. -/
theorem lampLinesShowTheState : Obligations.LampLinesShowTheState := by
  intro s tb flash flashInv fast braked lamps
  have hlamps : settleLamps s = { s with lamps := lamps } := by
    show s.setLamps s.lampsNow = s.setLamps lamps
    congr 1
    simp only [lamps, State.lampsNow, fitted_drive, brakePattern_drive, amberPattern_drive, headPattern_drive]
    by_cases hconfig : s.config = none
    · simp [hconfig, tb]
    · simp only [hconfig, false_or, if_false]
      rfl
  refine ⟨hlamps, congrArg Host.Outcome.next hlamps, fun c t hs h => ?_⟩
  rcases exec_cases c s with heq | ⟨u, heq⟩
  · exact Host.Outcome.next.inj (heq.symm.trans h) ▸ hs
  · exact Host.Outcome.next.inj (heq.symm.trans h) ▸ settleLamps_lampsSound u

/-- Settles O54, each predicate read off the power-on state. -/
theorem powerOnIsSound : Obligations.PowerOnIsSound := by
  refine ⟨⟨?_, ?_, List.forall_mem_nil _, ?_, ?_, ?_, ?_, ?_, ?_⟩, ?_, ?_, ?_, ?_, nofun, ?_, nofun, ?_, ?_, ?_, ?_, ?_, ?_,
    ?_, ?_⟩
  all_goals decide

end Sys2Proof.Proofs
end

section
/-!
PROOFS. The load: its buffer and checks (O5), its failure (O6), the fields it writes (O7) and the tests of its tables (O11, O12).
And the Road Tracker's readings (O15).
-/

namespace Sys2Proof.Machine

variable {s t : State}

/-! ### Reading the image (R180) -/

theorem byteSum_eq (bytes : List Byte) : byteSum bytes = (bytes.map (fun x => x.toNat)).sum := by
  rw [List.sum_eq_foldl, List.foldl_map]
  rfl

/-- A byte read leaves the load reading, or ends it by the first check that fails. -/
theorem loadAfter_eq (image : List Byte) (now : Time) :
    loadAfter image now =
      if image.length < 4 then .reading image now
      else if frameByte image 0 ≠ 1 then .ended image (some .version)
      else if frameWord image 1 < 452 ∨ 676 < frameWord image 1 then .ended image (some .length)
      else if image.length < frameWord image 1 then .reading image now
      else if byteSum (image.take (image.length - 2)) % 65536 ≠ frameWord image (image.length - 2) then
        .ended image (some .sum)
      else if frameByte image 3 = 0 ∨ 30 < frameByte image 3 then .ended image (some .id)
      else if 48 < frameByte image 64 ∨ 8 < frameByte image 65 ∨
          image.length ≠ 452 + 4 * frameByte image 64 + 4 * frameByte image 65 then .ended image (some .structure)
      else .ended image none := by
  unfold loadAfter headerFault
  split
  · rfl
  by_cases hversion : frameByte image 0 ≠ 1
  · simp only [if_pos hversion]
  by_cases hlength : namedLength image < 452 ∨ 676 < namedLength image
  · simp only [if_neg hversion, if_pos hlength]
    exact (if_pos hlength).symm
  simp only [if_neg hversion, if_neg hlength]
  refine Eq.trans ?_ (if_neg hlength).symm
  show (if image.length < frameWord image 1 then _ else LoadPhase.ended image (imageFault image)) = _
  unfold imageFault
  by_cases hmore : image.length < frameWord image 1
  · simp only [if_pos hmore]
  simp only [if_neg hmore, apply_ite (LoadPhase.ended image)]
  rfl

theorem imageByte_of_reading {buffer : List Byte} {last : Time} (h : s.loader.phase = .reading buffer last) (b : Byte) :
    imageByte b s = s.setLoader { s.loader with phase := loadAfter (buffer ++ [b]) s.time } := by
  simp only [imageByte, h]

theorem exec_loadByteTimeout {buffer : List Byte} {last : Time} (h : s.loader.phase = .reading buffer last)
    (hran : 200 ≤ (s.time - last).toNat) :
    exec .loadByteTimeout s =
      .next (settleLamps (s.setLoader { s.loader with phase := .ended buffer (some .timeout) })) := by
  have hdue : s.byteOverdue = true := by
    simp only [State.byteOverdue, h]
    exact decide_eq_true hran
  have heffect : loadByteTimeout s = s.setLoader { s.loader with phase := .ended buffer (some .timeout) } := by
    simp only [loadByteTimeout, h]
  rw [← heffect]
  exact if_pos hdue

/-! ### A load that fails -/

theorem noteModeChange_of_ne_parked {before : Mode} (h : before ≠ .parked) : noteModeChange before s = s :=
  if_neg fun hc => h hc.1

theorem noteModeChange_of_not_far {before : Mode} (h : s.beaconFarAhead = false) : noteModeChange before s = s :=
  if_neg fun hc => absurd (h.symm.trans hc.2.2) (by decide)

theorem failLoad_of_loading (r : LoadReason) (hload : s.loading = true) :
    failLoad r s =
      ((s.setHolds { s.holds with lockout := .config }).setDrive (s.drive.force .brakeHold)).setLoader
        { s.loader with phase := .idle, reason := r } := by
  have hmode : s.mode ≠ .parked := by
    rw [mode_of_loading (loading_eq_true_iff.1 hload)]
    decide
  unfold failLoad enterLockout
  rw [noteModeChange_of_ne_parked hmode]
  rfl

theorem loading_of_ended {image : List Byte} {outcome : LoadOutcome} (h : s.loader.phase = .ended image outcome) :
    s.loading = true := by
  simp [State.loading, h]

/-! ### Tables tested in index order -/

theorem checkNarrows_length (lRoad dClaim dStop : Nat) (entries : List NarrowEntry) :
    (checkNarrows lRoad dClaim dStop entries).length = entries.length :=
  length_foldl_snoc (fun (acc : List NarrowEntry) (e : NarrowEntry) => { e with disabled := narrowFault lRoad dClaim dStop acc e })
    entries

theorem testMarkers_length (lRoad : Nat) (entries : List MarkerEntry) :
    (testMarkers lRoad entries).length = entries.length :=
  length_foldl_snoc (fun (acc : List MarkerEntry) (m : MarkerEntry) => { m with disabled := markerFault lRoad acc m }) entries

theorem getElem?_testMarkers (lRoad : Nat) (entries : List MarkerEntry) (i : Nat) :
    (testMarkers lRoad entries)[i]? =
      entries[i]?.map fun m => { m with disabled := markerFault lRoad ((testMarkers lRoad entries).take i) m } :=
  getElem?_foldl_snoc (fun (acc : List MarkerEntry) (m : MarkerEntry) => { m with disabled := markerFault lRoad acc m })
    entries i

theorem markerFault_eq (lRoad : Nat) (before : List MarkerEntry) (m : MarkerEntry) :
    markerFault lRoad before m =
      if m.code = 0 ∨ m.code = 255 then some .code
      else if 2 < m.kind then some .kind
      else if lRoad < m.position then some .range
      else if ∃ x ∈ before, x.disabled = none ∧ x.code = m.code then some .duplicate
      else none := by
  simp only [markerFault, List.any_eq_true, Bool.and_eq_true, Option.isNone_iff_eq_none, decide_eq_true_eq]

theorem any_enabled {l : List NarrowEntry} {p : NarrowEntry → Bool} :
    (l.filter (fun x => x.disabled.isNone)).any p = true ↔ ∃ x ∈ l, x.disabled = none ∧ p x = true := by
  simp only [List.any_eq_true, List.mem_filter, Option.isNone_iff_eq_none, and_assoc]

theorem narrowFault_eq (lRoad dClaim dStop : Nat) (before : List NarrowEntry) (e : NarrowEntry) :
    narrowFault lRoad dClaim dStop before e =
      if e.hi ≤ e.lo then some .order
      else if lRoad < e.hi then some .range
      else if ∃ x ∈ before, x.disabled = none ∧ x.lo ≤ e.hi ∧ e.lo ≤ x.hi then some .overlap
      else if ∃ x ∈ before, x.disabled = none ∧ narrowDistance x e < dClaim + dStop + 4095 then some .spacing
      else none := by
  simp only [narrowFault, any_enabled, narrowsOverlap, Bool.and_eq_true, decide_eq_true_eq]

end Sys2Proof.Machine

namespace Sys2Proof.Proofs
open Sys2Proof.Machine

/-- Settles O5, by the checks of a byte read, in their order. -/
theorem loadReadsAndChecksTheImage : Obligations.LoadReadsAndChecksTheImage := by
  intro s buffer last h
  refine ⟨fun b => ?_, exec_loadByteTimeout h⟩
  intro image at_ word phase
  have hphase : loadAfter image s.time = phase := by
    rw [loadAfter_eq, byteSum_eq]
    rfl
  rw [← hphase]
  exact congrArg (fun t => Host.Outcome.next (settleLamps t)) (imageByte_of_reading h b)

/-- Settles O6: in START no beacon is scheduled afresh, and the notice holds the bridge. -/
theorem failedLoadLocksOut : Obligations.FailedLoadLocksOut := by
  intro s buffer reason h
  have hdue : s.loadFailed = true := by simp [State.loadFailed, h]
  have heffect : loadFailure s = failLoad reason s := by simp only [loadFailure, h]
  refine (if_pos hdue).trans ?_
  rw [heffect, failLoad_of_loading reason (loading_of_ended h)]
  rfl

/-- Settles O11. -/
theorem markerEntriesAreTested : Obligations.MarkerEntriesAreTested := by
  intro lRoad entries i m hm tested reason
  refine ⟨testMarkers_length lRoad entries, ?_⟩
  show (testMarkers lRoad entries)[i]? = _
  rw [getElem?_testMarkers, hm, Option.map_some, markerFault_eq]

/-- Settles O12. -/
theorem narrowEntriesAreChecked : Obligations.NarrowEntriesAreChecked := by
  intro lRoad dClaim dStop entries i e he checked distance failed
  refine ⟨checkNarrows_length lRoad dClaim dStop entries, ?_⟩
  show (checkNarrows lRoad dClaim dStop entries)[i]? = _
  rw [getElem?_checkNarrows, he, Option.map_some, narrowFault_eq]
  rfl

/-- Settles O15, each reading by the direction of travel. -/
theorem roadReadingsFollowTheTables : Obligations.RoadReadingsFollowTheTables := by
  intro s front segment cap
  refine ⟨?_, ?_, ?_⟩
  · rfl
  · unfold State.gradeBias
    cases s.cfg.gradeBiasOn
    · rfl
    · cases s.road.direction <;> rfl
  · unfold State.zoneCap
    cases s.road.direction <;> rfl

end Sys2Proof.Proofs
end

section
/-!
PROOFS. What LOAD_SUCCESS writes of the image (O7): each field from its place and within its range, and its mark.
-/

namespace Sys2Proof.Machine

variable {s t : State}

theorem takeObstLevel_outside :
    (takeObstLevel s).config = s.config ∧ (takeObstLevel s).loader = s.loader := by
  refine ⟨(acts_takeObstLevel s).config, ?_⟩
  unfold takeObstLevel
  dsimp only
  split
  · exact obstructionActivation_outside.loader
  · rfl

/-- LOAD_SUCCESS takes the load that has passed its checks. -/
theorem exec_loadSuccess {image : List Byte} (h : s.loader.phase = .ended image none) :
    exec .loadSuccess s = .next (settleLamps (takeObstLevel (blocksAtLoad (installConfig image s)))) := by
  have hdue : s.loadPassed = true := by simp [State.loadPassed, h]
  have heffect : loadSuccess s = succeedLoad image s := by simp only [loadSuccess, h]
  refine (if_pos hdue).trans ?_
  rw [heffect]
  rfl

/-! ### The marks -/

theorem mem_stationFields (f : StationField) : f ∈ stationFields := by cases f <;> decide

theorem mem_routeFields (f : RouteField) : f ∈ routeFields := by cases f <;> decide

theorem station_marked_iff (image : List Byte) (f : StationField) :
    ConfigField.station f ∈ clampedMarks image ↔ stationValue image f ≠ rawStation image f := by
  simp [clampedMarks, mem_stationFields]

theorem route_marked_iff (image : List Byte) (f : RouteField) :
    ConfigField.route f ∈ clampedMarks image ↔ routeValue image f ≠ rawRoute image f := by
  simp [clampedMarks, mem_routeFields]

theorem gradeBias_marked_iff (image : List Byte) {i : Nat} (hi : i < 128) :
    ConfigField.gradeBias i ∈ clampedMarks image ↔ rawBias image i < -255 ∨ 255 < rawBias image i := by
  have hclamp (x : Int) : clampInt (-255) 255 x ≠ x ↔ x < -255 ∨ 255 < x := by
    unfold clampInt
    omega
  rw [← hclamp]
  simp only [clampedMarks, segmentValue, List.mem_append, List.mem_map, List.mem_filter, List.mem_range, reduceCtorEq,
    and_false, exists_false, false_or, or_false, ConfigField.gradeBias.injEq, exists_eq_right]
  exact (and_iff_right hi).trans decide_eq_true_iff

theorem zoneCap_marked_iff (image : List Byte) {i : Nat} (hi : i < 128) :
    ConfigField.zoneCap i ∈ clampedMarks image ↔ 15 < rawCap image i := by
  have hclamp (x : Nat) : min x 15 ≠ x ↔ 15 < x := by omega
  rw [← hclamp]
  simp [clampedMarks, hi, segmentValue]

/-! ### One-byte fields -/

theorem flag_marked_iff (x : Nat) : clampNat 0 1 x ≠ x ↔ 1 < x := by
  unfold clampNat
  omega

theorem flag_ne_zero_iff (x : Nat) : clampNat 0 1 x ≠ 0 ↔ x ≠ 0 := by
  unfold clampNat
  omega

theorem clampNat_byte (image : List Byte) (i : Nat) : clampNat 0 255 (frameByte image i) = frameByte image i := by
  have := frameByte_lt image i
  unfold clampNat
  omega

theorem polarity_eq_iff (n : Nat) : Polarity.fromByte n = .activeHigh ↔ n ≠ 0 := by
  unfold Polarity.fromByte
  split <;> simp [*]

theorem obstMode_eq_iff (n : Nat) : ObstMode.fromByte n = .latched ↔ n ≠ 0 := by
  unfold ObstMode.fromByte
  split <;> simp [*]

end Sys2Proof.Machine

namespace Sys2Proof.Proofs
open Sys2Proof.Machine

/-- Settles O7. Each field of the configuration is by definition the number at its place within its range; a flag and a byte
without a bound need a word more, and each mark is read off `clampedMarks`. -/
theorem loadedFieldsAreClamped : Obligations.LoadedFieldsAreClamped := by
  intro s image h at_ word within narrowsAt segmentsAt bias cap
  have hflag (x : Nat) : decide (clampNat 0 1 x ≠ 0) = true ↔ x ≠ 0 := decide_eq_true_iff.trans (flag_ne_zero_iff x)
  have hpolarity (x : Nat) : Polarity.fromByte (clampNat 0 1 x) = .activeHigh ↔ x ≠ 0 :=
    (polarity_eq_iff _).trans (flag_ne_zero_iff x)
  have hmarks : (takeObstLevel (blocksAtLoad (installConfig image s))).loader.clamped = clampedMarks image :=
    congrArg Loader.clamped takeObstLevel_outside.2
  refine ⟨_, configOf image, exec_loadSuccess h, takeObstLevel_outside.1, rfl, rfl, rfl, rfl, rfl, hflag _, hpolarity _,
    hpolarity _, (obstMode_eq_iff _).trans (flag_ne_zero_iff _), hflag _, hflag _, hflag _, rfl, rfl, rfl, rfl, rfl, rfl, rfl,
    rfl, rfl, rfl, rfl, rfl, rfl, rfl, rfl, rfl, clampNat_byte image 48, clampNat_byte image 49, rfl, rfl, rfl, rfl, rfl, rfl,
    rfl, rfl, rfl, rfl, rfl, ?_, ?_, ?_, ?_⟩
  · intro i hi
    show (_ ∈ (takeObstLevel (blocksAtLoad (installConfig image s))).loader.clamped ↔ _) ∧
      (_ ∈ (takeObstLevel (blocksAtLoad (installConfig image s))).loader.clamped ↔ _)
    rw [hmarks]
    exact ⟨gradeBias_marked_iff image hi, zoneCap_marked_iff image hi⟩
  all_goals
    intro f hf
    show _ ∈ (takeObstLevel (blocksAtLoad (installConfig image s))).loader.clamped ↔ _
    rw [hmarks]
  · rw [station_marked_iff]
    simp only [List.mem_cons, List.not_mem_nil, or_false] at hf
    rcases hf with rfl | rfl | rfl | rfl | rfl | rfl | rfl
    all_goals exact flag_marked_iff _
  · rw [station_marked_iff]
    refine ne_comm.trans ?_
    simp only [List.mem_cons, List.not_mem_nil, or_false] at hf
    rcases hf with rfl | rfl | rfl | rfl | rfl | rfl | rfl | rfl | rfl | rfl | rfl | rfl | rfl | rfl | rfl | rfl | rfl | rfl |
      rfl | rfl | rfl | rfl
    all_goals exact Iff.rfl
  · rw [route_marked_iff]
    refine ne_comm.trans ?_
    simp only [List.mem_cons, List.not_mem_nil, or_false] at hf
    rcases hf with rfl | rfl | rfl | rfl | rfl | rfl | rfl | rfl
    all_goals exact Iff.rfl

end Sys2Proof.Proofs
end

section
/-!
PROOFS. The start of a station: LOAD_SUCCESS and RESTART, with the OBST level taken afresh (O8, O9, O10).
-/

namespace Sys2Proof.Machine

variable {s t : State}

/-! ### A beacon just scheduled lies within its period -/

theorem elapsed_self (now : Time) : elapsed now now = 0 := by simp [elapsed]

/-- A beacon scheduled for the configured period is not far ahead (R34). -/
theorem beaconFarAhead_scheduled (s : State) :
    (scheduleBeacon s.cfg.beaconPeriod s).beaconFarAhead = false := by
  have hmod : s.drawValue % (s.cfg.beaconPeriod / 4 + 1) < s.cfg.beaconPeriod / 4 + 1 := Nat.mod_lt _ (Nat.succ_pos _)
  have hremaining : 7 * s.cfg.beaconPeriod / 8 + s.drawValue % (s.cfg.beaconPeriod / 4 + 1) - elapsed s.time s.time ≤
      s.cfg.beaconPeriod + s.cfg.beaconPeriod / 4 := by
    rw [elapsed_self]
    omega
  exact decide_eq_false (not_lt.2 hremaining)

/-! ### The OBST level taken afresh (R172) -/

theorem takeObstLevel_inactive (h : s.config = none ∨ s.obstRaw = false) :
    takeObstLevel s = s.setSensors { s.sensors with obstActive := false, obstTimer := none } := by
  have hinactive : (s.conditioning && s.obstRaw) = false := by
    rcases h with h | h <;> simp [State.conditioning, h]
  unfold takeObstLevel
  simp only [hinactive]
  rfl

/-- The one hold of a station that finds the line ACTIVE as it starts. -/
def startingHold (now : Time) : HoldRecord :=
  { cause := .obstruction, pushedAt := now, modeBefore := .parked, vRefAtPush := 0, released := false, lostId := none }

/-- A push on the empty stack of a PARKED rig at rest. -/
theorem pushHold_starting (hload : s.loading = false) (hholds : s.holds = .empty) (hrole : s.spacing.role = .parked)
    (hv : s.spacing.vRef = 0) (hfar : s.beaconFarAhead = false) :
    pushHold .obstruction none s = s.setHolds { stack := [startingHold s.time], lockout := .none } := by
  have hmode : s.mode = .parked := by simp [State.mode, deriveMode, hload, hholds, HoldStack.empty, hrole, Role.asMode]
  have hhold : newHold .obstruction none s = startingHold s.time := by simp [newHold, startingHold, hmode, hv]
  have hfar' (h : HoldStack) : (s.setHolds h).beaconFarAhead = false := hfar
  rcases pushHold_cases s .obstruction none with ⟨hclosed, -⟩ | ⟨-, hhas, -⟩ | ⟨-, -, -, h⟩ | ⟨-, -, hfull, -⟩
  · simp [State.stackClosed, hmode] at hclosed
  · simp [hholds, HoldStack.has, HoldStack.empty] at hhas
  · rw [h, noteModeChange_of_not_far (hfar' _), hhold, hholds]
    rfl
  · simp [hholds, HoldStack.empty] at hfull

/-- The drive of a rig at rest after an obstruction notice. -/
def DriveUnit.heldAtRest (d : DriveUnit) : DriveUnit :=
  { d with applied := .brakeHold, buffer := .brakeHold, updatePending := false, integral := 0, obstructionKill := true }

theorem obstructionKillNotice_at_rest (hm : s.drive.vMeas = 0) :
    obstructionKillNotice s = s.setDrive s.drive.heldAtRest := by
  simp [obstructionKillNotice, DriveUnit.kill, DriveUnit.force, killOutput, hm, DriveUnit.heldAtRest]

theorem spacingKillNotice_at_rest (hv : s.spacing.vRef = 0) : spacingKillNotice s = s := by
  have hsame : ({ s.spacing with vRef := 0 } : SpacingUnit) = s.spacing := by rw [← hv]
  show s.setSpacing { s.spacing with vRef := 0 } = s
  rw [hsame]
  rfl

/-- An activation of a PARKED rig at rest with an empty stack: the push and the notices, in either order, do the same. -/
theorem obstructionActivation_starting (hload : s.loading = false) (hholds : s.holds = .empty)
    (hrole : s.spacing.role = .parked) (hv : s.spacing.vRef = 0) (hm : s.drive.vMeas = 0) (hfar : s.beaconFarAhead = false) :
    obstructionActivation s =
      (((s.setFreeCount (s.freeCount + 1)).setHolds { stack := [startingHold s.time], lockout := .none }).setDrive
        s.drive.heldAtRest).setCounters { s.counters with obstructionStop := bump s.counters.obstructionStop } := by
  rcases obstructionActivation_cases s with ⟨hclosed, -⟩ | ⟨-, t, ht, h⟩
  · have hopen : s.stackClosed = false := stackClosed_eq_false.2 ⟨hload, by rw [hholds]; rfl⟩
    exact absurd (hopen.symm.trans hclosed) (by decide)
  have hboth : t = ((s.setFreeCount (s.freeCount + 1)).setHolds { stack := [startingHold s.time], lockout := .none }).setDrive
      s.drive.heldAtRest := by
    rcases ht with rfl | rfl
    · rw [pushHold_starting (s := s.setFreeCount (s.freeCount + 1)) hload hholds hrole hv hfar,
        obstructionKillNotice_at_rest (by exact hm), spacingKillNotice_at_rest (by exact hv)]
      rfl
    · rw [spacingKillNotice_at_rest (by exact hv), obstructionKillNotice_at_rest (by exact hm),
        pushHold_starting (by exact hload) (by exact hholds) (by exact hrole) (by exact hv) (by exact hfar)]
      rfl
  rw [h, hboth]
  rfl

theorem takeObstLevel_active (hconfig : s.config ≠ none) (hraw : s.obstRaw = true) (hload : s.loading = false)
    (hholds : s.holds = .empty) (hrole : s.spacing.role = .parked) (hv : s.spacing.vRef = 0) (hm : s.drive.vMeas = 0)
    (hfar : s.beaconFarAhead = false) :
    takeObstLevel s =
      { s with
        sensors := { s.sensors with obstActive := true, obstTimer := none }
        holds := { stack := [startingHold s.time], lockout := .none }
        drive := s.drive.heldAtRest
        counters := { s.counters with obstructionStop := bump s.counters.obstructionStop }
        freeCount := s.freeCount + 1 } := by
  have hactive : (s.conditioning && s.obstRaw) = true := by simp [State.conditioning, hraw, Option.isSome_iff_ne_none, hconfig]
  unfold takeObstLevel
  simp only [hactive]
  exact obstructionActivation_starting (s := s.setSensors { s.sensors with obstActive := true, obstTimer := none }) hload hholds
    hrole hv hm hfar

/-- The level taken ACTIVE, against what the same state takes with the line INACTIVE. -/
theorem takeObstLevel_active_of (hbase : s.setSensors { s.sensors with obstActive := false, obstTimer := none } = t)
    (hconfig : s.config ≠ none) (hraw : s.obstRaw = true) (hload : t.loading = false) (hholds : t.holds = .empty)
    (hrole : t.spacing.role = .parked) (hv : t.spacing.vRef = 0) (hm : t.drive.vMeas = 0) (hfar : s.beaconFarAhead = false) :
    takeObstLevel s =
      { t with
        sensors := { t.sensors with obstActive := true }
        holds := { stack := [startingHold t.time], lockout := .none }
        drive := t.drive.heldAtRest
        counters := { t.counters with obstructionStop := bump t.counters.obstructionStop }
        freeCount := t.freeCount + 1 } := by
  subst hbase
  exact takeObstLevel_active hconfig hraw hload hholds hrole hv hm hfar

end Sys2Proof.Machine

namespace Sys2Proof.Proofs
open Sys2Proof.Machine

/-- Settles O8: the blocks as the load writes them, and the OBST level taken afresh at the end. -/
theorem successfulLoadStartsTheStation : Obligations.SuccessfulLoadStartsTheStation := by
  intro s image h c hitched seed drawn period base
  let u := blocksAtLoad (installConfig image s)
  have hroad : u.road = base.road := by
    show ({ s.road with
      hitch := hitchOf hitched, rigLength := c.rigLength (hitchOf hitched), posUm := onRoad c s.road.posUm } : RoadTracker) = _
    rw [onRoad_eq, Int.toNat_natCast]
    cases hh : hitched <;> simp [base, hh, hitchOf, WorkingConfig.rigLength]
  have hbase : u.setSensors { u.sensors with obstActive := false, obstTimer := none } = base :=
    calc u.setSensors { u.sensors with obstActive := false, obstTimer := none }
      _ = { base with road := u.road } := rfl
      _ = base := by rw [hroad]
  have hexec : exec .loadSuccess s = .next (settleLamps (takeObstLevel u)) := exec_loadSuccess h
  rw [hexec]
  refine ⟨fun hraw => ?_, fun hraw hholds hrole hv hm => ?_⟩ <;> congr 2
  · exact (takeObstLevel_inactive (s := u) (.inr hraw)).trans hbase
  · exact takeObstLevel_active_of hbase nofun hraw rfl hholds hrole hv hm (beaconFarAhead_scheduled _)

/-- Settles O9: the blocks as a restart leaves them, and the OBST level taken afresh at the end. -/
theorem restartKeepsThePlace : Obligations.RestartKeepsThePlace := by
  intro s hload hlock seed drawn period base
  have hkeeps : s.restartReloads = false := by simp [State.restartReloads, hload, hlock]
  let u := scheduleFirstBeacon (startStepTimers (restartBlocks s))
  have hbase : u.setSensors { u.sensors with obstActive := false, obstTimer := none } = base := rfl
  have hexec : exec .restart s = .next (settleLamps (takeObstLevel u)) := by
    show Host.Outcome.next (settleLamps (restart s)) = _
    unfold restart
    simp only [hkeeps]
    rfl
  rw [hexec]
  refine ⟨fun hraw => ?_, fun hconfig hraw => ?_⟩ <;> congr 2
  · exact (takeObstLevel_inactive (s := u) (.inr hraw)).trans hbase
  · exact takeObstLevel_active_of hbase hconfig hraw hload rfl rfl rfl rfl (beaconFarAhead_scheduled _)

/-- Settles O10: a restart that reloads writes the restart values and begins a load, by whichever event it is taken. -/
theorem restartReloads : Obligations.RestartReloads := by
  refine ⟨fun s h => ?_, fun s start hstart hran hmode => ?_, fun s r hresponse hrequest => ?_⟩
  · have hreloads : s.restartReloads = true := by simpa [State.restartReloads] using h
    have hrestart : restart s = restartReload s := if_pos hreloads
    refine ⟨settleLamps (restartReload s), congrArg (fun t => Host.Outcome.next (settleLamps t)) hrestart, ?_⟩
    exact ⟨rfl, rfl, rfl, rfl, rfl, rfl, rfl, rfl, rfl, rfl, rfl, rfl, rfl, rfl, rfl, rfl, rfl, rfl, rfl, rfl, rfl, rfl, rfl⟩
  · have hdue : s.resetHeldLong = true := by
      simp only [State.resetHeldLong, Bool.and_eq_true, decide_eq_true_eq]
      exact ⟨hstart ▸ decide_eq_true hran, hmode⟩
    exact ⟨_, if_pos hdue, rfl⟩
  · have heffect : responseEnd s = restart s := by simp only [responseEnd, hresponse, if_pos hrequest]
    exact ⟨_, congrArg (fun t => Host.Outcome.next (settleLamps t)) heffect, rfl⟩

end Sys2Proof.Proofs
end

section
/-!
PROOFS. The conditioned input lines: HITCH and OBST with their debounce timers, and an obstruction activation (O16, O17, O18).
-/

namespace Sys2Proof.Machine

variable {s t : State}

/-! ### Reading the lines -/

theorem ranFor_of_start {timer : Running} {start now : Time} {period : Nat} (h : timer = some start)
    (hran : period ≤ (now - start).toNat) : timer.ranFor now period = true := by
  rw [h]
  exact decide_eq_true hran

theorem conditioning_of_config (h : s.config ≠ none) : s.conditioning = true := Option.isSome_iff_ne_none.2 h

theorem conditioning_of_no_config (h : s.config = none) : s.conditioning = false := by simp [State.conditioning, h]

theorem hitchEdge_of_change {level : Level} (hconfig : s.config ≠ none) (hlevel : level ≠ s.sensors.hitchLine) :
    hitchEdge level s = s.setSensors { s.sensors with
      hitchLine := level
      hitchTimer := (s.setSensors { s.sensors with hitchLine := level }).nextHitchTimer } :=
  if_pos ⟨conditioning_of_config (by exact hconfig), hlevel⟩

theorem hitchEdge_of_no_config {level : Level} (hconfig : s.config = none) :
    hitchEdge level s = s.setSensors { s.sensors with hitchLine := level } := by
  refine if_neg fun h => ?_
  have hconditioning : s.conditioning = true := h.1
  rw [conditioning_of_no_config hconfig] at hconditioning
  contradiction

theorem nextHitchTimer_eq (s : State) :
    s.nextHitchTimer =
      if s.hitchRaw = s.sensors.hitchActive then none
      else if s.sensors.hitchTimer = none then some s.time else s.sensors.hitchTimer := by
  unfold State.nextHitchTimer
  cases s.sensors.hitchTimer <;> rfl

/-- What an edge on the OBST line does, by the raw level it leaves and the level believed (R171). -/
theorem obstEdge_of_change {level : Level} (hconfig : s.config ≠ none) (hlevel : level ≠ s.sensors.obstLine) :
    obstEdge level s =
      let s1 := s.setSensors { s.sensors with obstLine := level }
      if rawActive s.cfg.obstPolarity level then
        if s.sensors.obstActive then s1.setSensors { s1.sensors with obstTimer := none }
        else obstructionActivation (s1.setSensors { s1.sensors with obstActive := true })
      else if s.sensors.obstActive then s1.setSensors { s1.sensors with obstTimer := some s.time }
      else s1 :=
  if_pos ⟨conditioning_of_config (by exact hconfig), hlevel⟩

/-! ### An obstruction activation, in one equation -/

/-- The stack after a push: the record of the cause revived in place, or one on top, or a full stack locked out (R118, R119,
R120). -/
inductive HoldStack.PushedTo (h : HoldStack) (cause : HoldCause) : HoldStack → Prop where
  | revived (now : Time) (lost : Option Nat) (hhas : h.has cause = true) :
      h.PushedTo cause { h with stack := reviveIn h.stack cause now lost }
  | placed (r : HoldRecord) (hnew : h.has cause = false) (hroom : h.stack.length < 4) (hcause : r.cause = cause)
      (hr : r.released = false) : h.PushedTo cause { h with stack := r :: h.stack }
  | overrun (hnew : h.has cause = false) (hfull : 4 ≤ h.stack.length) :
      h.PushedTo cause { h with lockout := .holdOverrun }

/-- A push touches the stack, the beacon request and, on a full stack, the drive, which it kills. -/
theorem pushHold_pushedTo (hopen : s.stackClosed = false) (cause : HoldCause) (lost : Option Nat) :
    ∃ air h d, s.holds.PushedTo cause h ∧ d.kill = s.drive.kill ∧ (d = s.drive ∨ d = s.drive.kill) ∧
      pushHold cause lost s = { s with air, holds := h, drive := d } := by
  have hframe := pushHold_frame s cause lost
  rcases pushHold_holds_drive s cause lost with ⟨hclosed, -, -⟩ | ⟨-, hhas, hh, hd⟩ | ⟨-, hnew, hroom, hh, hd⟩ |
    ⟨-, hnew, hfull, hh, hd⟩
  · exact absurd (hopen.symm.trans hclosed) (by decide)
  all_goals rw [hh, hd] at hframe
  · exact ⟨_, _, _, .revived _ _ hhas, rfl, .inl rfl, hframe⟩
  · exact ⟨_, _, _, .placed (newHold cause lost s) hnew hroom rfl rfl, rfl, .inl rfl, hframe⟩
  · exact ⟨_, _, s.drive.kill, .overrun hnew hfull, rfl, .inr rfl, hframe⟩

/-- An activation on an open stack, whichever order its push and its notices take: V_ref 0, the drive killed with its flag, one
stop counted, and the stack pushed (R97, R108, R173). -/
theorem obstructionActivation_eq (hopen : s.stackClosed = false) :
    ∃ air h, s.holds.PushedTo .obstruction h ∧
      obstructionActivation s =
        { s with
          air
          spacing := { s.spacing with vRef := 0 }
          drive := { s.drive.kill with obstructionKill := true }
          holds := h
          counters := { s.counters with obstructionStop := bump s.counters.obstructionStop }
          freeCount := s.freeCount + 1 } := by
  rcases obstructionActivation_cases s with ⟨hclosed, -⟩ | ⟨-, t, ht, h⟩
  · exact absurd (hopen.symm.trans hclosed) (by decide)
  rcases ht with rfl | rfl
  · obtain ⟨air, g, d, hholds, hkill, -, hpush⟩ :=
      pushHold_pushedTo (s := s.setFreeCount (s.freeCount + 1)) hopen .obstruction none
    have hkill' : d.kill = s.drive.kill := hkill
    refine ⟨air, g, hholds, ?_⟩
    rw [h, hpush, ← hkill']
    rfl
  · obtain ⟨air, g, d, hholds, -, hdrive, hpush⟩ :=
      pushHold_pushedTo (s := obstructionKillNotice (spacingKillNotice (s.setFreeCount (s.freeCount + 1)))) hopen
        .obstruction none
    have hdrive' : d = { s.drive.kill with obstructionKill := true } := hdrive.elim id (fun h => h)
    refine ⟨air, g, hholds, ?_⟩
    rw [h, hpush, hdrive']
    rfl

theorem HoldStack.PushedTo.unreleased {h g : HoldStack} {cause : HoldCause} (hp : h.PushedTo cause g)
    (hroom : h.has cause = true ∨ h.stack.length < 4) : g.unreleased cause = true ∧ g.lockout = h.lockout := by
  cases hp with
  | revived now lost hhas => exact ⟨unreleased_reviveIn.2 (by rwa [if_pos rfl]), rfl⟩
  | placed r hnew hroom hcause hr => exact ⟨(unreleased_cons hr).2 (.inl hcause), rfl⟩
  | overrun hnew hfull =>
    rw [hnew] at hroom
    exact absurd (hroom.resolve_left nofun) (not_lt.2 hfull)

theorem HoldStack.PushedTo.overruns {h g : HoldStack} {cause : HoldCause} (hp : h.PushedTo cause g)
    (hnew : h.has cause = false) (hfull : 4 ≤ h.stack.length) : g = { h with lockout := .holdOverrun } := by
  cases hp with
  | revived now lost hhas => exact absurd (hnew.symm.trans hhas) nofun
  | placed r hnew hroom hcause hr => exact absurd hroom (not_lt.2 hfull)
  | overrun hnew hfull => rfl

/-- A station with an unreleased hold other than NARROW_WAIT, neither loading nor locked out, halts. -/
theorem mode_of_unreleased {cause : HoldCause} (hopen : s.stackClosed = false) (hcause : cause ≠ .narrowWait)
    (hheld : s.holds.unreleased cause = true) : s.mode = .halt := by
  obtain ⟨hload, hlock⟩ := stackClosed_eq_false.1 hopen
  obtain ⟨r, hr, hrc, hrel⟩ := unreleased_iff.1 hheld
  exact mode_of_halts (loading_eq_false_iff.1 hload) hlock ⟨r, hr, hrel, hrc ▸ hcause⟩

end Sys2Proof.Machine

namespace Sys2Proof.Proofs
open Sys2Proof.Machine

/-- Settles O16: the line edge and the timer's expiry, each by its own equation. -/
theorem hitchIsDebounced : Obligations.HitchIsDebounced := by
  refine fun s => ⟨fun level hconfig hlevel => ?_, fun start hconfig hstart hran => ?_, fun level hconfig => ?_⟩
  · refine (congrArg (fun t => Host.Outcome.next (settleLamps t)) (hitchEdge_of_change hconfig hlevel)).trans ?_
    rw [nextHitchTimer_eq]
    rfl
  · have hdue : s.hitchDue = true := by
      rw [State.hitchDue, conditioning_of_config hconfig, ranFor_of_start hstart hran]
      rfl
    refine (if_pos hdue).trans ?_
    have hlength (raw : Bool) :
        s.cfg.rigLength (hitchOf raw) = if raw then s.cfg.lTractor + s.cfg.lTrailer else s.cfg.lTractor := by
      cases raw <;> rfl
    show Host.Outcome.next (settleLamps { s with
      sensors := { s.sensors with hitchActive := s.hitchRaw, hitchTimer := none }
      road := { s.road with hitch := hitchOf s.hitchRaw, rigLength := s.cfg.rigLength (hitchOf s.hitchRaw) } }) = _
    rw [hlength]
    rfl
  · exact congrArg (fun t => Host.Outcome.next (settleLamps t)) (hitchEdge_of_no_config hconfig)

/-- Settles O17: an edge while the level is ACTIVE only moves the timer, and its expiry requests the release. -/
theorem obstructionReleaseIsDebounced : Obligations.ObstructionReleaseIsDebounced := by
  refine fun s hconfig hactive => ⟨fun level hlevel => ?_, fun start hstart hran => ?_⟩
  · refine (congrArg (fun t => Host.Outcome.next (settleLamps t)) (obstEdge_of_change hconfig hlevel)).trans ?_
    simp only [if_pos hactive]
    cases rawActive s.cfg.obstPolarity level <;> rfl
  · have hdue : s.obstDue = true := by
      rw [State.obstDue, conditioning_of_config hconfig, ranFor_of_start hstart hran]
      rfl
    exact if_pos hdue

/-- Settles O18: the edge is an activation, which outside START and LOCKOUT pushes, kills and counts. -/
theorem obstructionActivates : Obligations.ObstructionActivates := by
  intro s level hconfig hlevel hraw hinactive
  let u := s.setSensors { s.sensors with obstLine := level, obstActive := true }
  have hexec : exec (.obstEdge level) s = .next (settleLamps (obstructionActivation u)) := by
    refine (congrArg (fun t => Host.Outcome.next (settleLamps t)) (obstEdge_of_change hconfig hlevel)).trans ?_
    simp only [if_pos hraw, hinactive, Bool.false_eq_true, if_false]
    rfl
  refine ⟨fun hstart hlockout => ?_, fun hmode => ?_⟩
  · have hopen : u.stackClosed = false := by
      show s.stackClosed = false
      simp [State.stackClosed, hstart, hlockout]
    obtain ⟨air, h, hpush, hact⟩ := obstructionActivation_eq hopen
    refine ⟨_, hexec, ?_⟩
    rw [hact]
    refine ⟨rfl, rfl, rfl, rfl, rfl, rfl, rfl, rfl, rfl, rfl, rfl, ?_, rfl, rfl, rfl, rfl, rfl, rfl, rfl, rfl, rfl, rfl⟩
    split
    · next hover => exact hpush.overruns hover.1 hover.2
    · next hover =>
      have hroom : s.holds.has .obstruction = true ∨ s.holds.stack.length < 4 := by
        by_contra hno
        obtain ⟨hhas, hlength⟩ := not_or.1 hno
        exact hover ⟨by simpa using hhas, not_lt.1 hlength⟩
      obtain ⟨hheld, hlock⟩ := hpush.unreleased hroom
      obtain ⟨hload, hnone⟩ := stackClosed_eq_false.1 hopen
      refine ⟨mode_of_unreleased (cause := .obstruction) ?_ nofun hheld, hheld, hlock⟩
      exact stackClosed_eq_false.2 ⟨hload, hlock.trans hnone⟩
  · have hclosed : u.stackClosed = true := by
      show s.stackClosed = true
      rcases hmode with h | h <;> simp [State.stackClosed, h]
    have hnothing : obstructionActivation u = u := if_pos hclosed
    rw [hexec, hnothing]
    rfl

end Sys2Proof.Proofs
end

section
/-!
PROOFS. The drive step and the handset: pulses, bands, gestures, absence, and the orders they issue (O43, O45 to O48).
-/

namespace Sys2Proof.Machine

variable {s t : State}

theorem next_congr (h : s = t) : (.next (settleLamps s) : Host.Outcome State Fault Refusal) = .next (settleLamps t) := by
  rw [h]

/-! ### The drive step (R101) -/

theorem killActive_iff : s.killActive = true ↔
    s.spacing.closeIn = true ∨ s.drive.obstructionKill = true ∨ s.mode = .lockout := by
  simp [State.killActive, or_assoc]

/-- A drive step counts an overspeed, measures, and then kills or runs the loop. -/
theorem driveStep_eq (s : State) :
    driveStep s = { s with
      counters := if 1023 < speedOf s.drive.edgeCount s.cfg.eS then
        { s.counters with overspeed := bump s.counters.overspeed } else s.counters
      drive := if s.killActive = true then (s.drive.measure s.cfg.eS).kill
        else speedLoop (s.setDrive (s.drive.measure s.cfg.eS)) } := by
  unfold driveStep countOverspeed
  by_cases hfast : 1023 < speedOf s.drive.edgeCount s.cfg.eS
  · rw [if_pos hfast, if_pos hfast]
    by_cases hkill : s.killActive = true
    · rw [if_pos hkill]
      exact if_pos hkill
    · rw [if_neg hkill]
      exact if_neg hkill
  · rw [if_neg hfast, if_neg hfast]
    by_cases hkill : s.killActive = true
    · rw [if_pos hkill]
      exact if_pos hkill
    · rw [if_neg hkill]
      exact if_neg hkill

/-! ### The decoder (R155 to R162) -/

theorem validPulse_iff {w : Nat} : validPulse w = true ↔ 800 ≤ w ∧ w ≤ 2200 := by simp [validPulse]

theorem not_validPulse_iff {w : Nat} : validPulse w = false ↔ w < 800 ∨ 2200 < w := by
  rw [← Bool.not_eq_true, validPulse_iff]
  omega

theorem throttlePulse_of_valid {w : Nat} (hmode : s.mode ≠ .start) (hlow : 800 ≤ w) (hhigh : w ≤ 2200) :
    throttlePulse w s = s.setDecoder
      { s.handset with
        throttleChannel := { present := true, lastPulse := s.time }
        throttle := if s.validConfig then throttleOf s.cfg.vMax w else 0
        lastWidth := w
        resetLock := s.handset.resetLock && decide (1950 ≤ w) } :=
  if_neg (not_or.2 ⟨hmode, Bool.not_eq_false _ ▸ validPulse_iff.2 ⟨hlow, hhigh⟩⟩)

theorem modePulse_of_valid {w : Nat} (hmode : s.mode ≠ .start) (hlow : 800 ≤ w) (hhigh : w ≤ 2200) :
    modePulse w s = bandChange (bandAfter s.handset.band w)
      (s.setDecoder { s.handset with modeChannel := { present := true, lastPulse := s.time } }) :=
  if_neg (not_or.2 ⟨hmode, Bool.not_eq_false _ ▸ validPulse_iff.2 ⟨hlow, hhigh⟩⟩)

theorem loading_eq_false_of_mode (hmode : s.mode ≠ .start) : s.loading = false := by
  by_contra h
  exact hmode (mode_of_loading (loading_eq_true_iff.1 (Bool.eq_true_of_not_eq_false h)))

/-- The reset timer of a decoder whose throttle channel is present. -/
theorem withResetTimer_of_present {h : Handset} (hpresent : h.throttleChannel.present = true) (now : Time) :
    h.withResetTimer now = { h with resetTimer :=
      if h.band = .stop ∧ 1950 ≤ h.lastWidth then
        (match h.resetTimer with | some x => some x | none => if h.resetLock = true then none else some now)
      else none } := by
  have hheld : (h.resetHeld = true) = (h.band = .stop ∧ 1950 ≤ h.lastWidth) := by simp [Handset.resetHeld, hpresent]
  simp only [Handset.withResetTimer, hheld] <;> rfl

/-- The reset timer does not run outside STOP (R162). -/
theorem withResetTimer_of_ne_stop {h : Handset} (hband : h.band ≠ .stop) (now : Time) :
    h.withResetTimer now = { h with resetTimer := none } := by
  have hheld : h.resetHeld = false := by simp [Handset.resetHeld, hband]
  simp [Handset.withResetTimer, hheld]

theorem setDecoder_of_ne_stop {h : Handset} (hband : h.band ≠ .stop) :
    s.setDecoder h = s.setHandset { h with resetTimer := none } := by
  rw [State.setDecoder, withResetTimer_of_ne_stop hband]

theorem withResetTimer_of_absent {h : Handset} (habsent : h.throttleChannel.present = false) (now : Time) :
    h.withResetTimer now = { h with resetTimer := none } := by
  have hheld : h.resetHeld = false := by simp [Handset.resetHeld, habsent]
  simp [Handset.withResetTimer, hheld]

/-- The reset timer as the band enters STOP with the timer stopped (R162). -/
theorem withResetTimer_toBand_stop {h : Handset} (htimer : h.resetTimer = none) (now : Time) :
    (h.toBand now .stop).withResetTimer now = { h with
      band := .stop, stopTimer := some now, stopHeld := false
      resetTimer :=
        if (h.throttleChannel.present = true ∧ 1950 ≤ h.lastWidth) ∧ h.resetLock = false then some now else none } := by
  cases hlock : h.resetLock <;>
    simp [Handset.toBand, Handset.withResetTimer, Handset.resetHeld, htimer, hlock]

theorem bandChange_of_same {b : Band} (h : b = s.handset.band) : bandChange b s = s := if_pos h

/-- A change into STOP (R157). -/
theorem bandChange_stop (h : s.handset.band ≠ .stop) :
    bandChange .stop s = pushHold .handsetStop none (s.setDecoder (s.handset.toBand s.time .stop)) := by
  unfold bandChange
  rw [if_neg (Ne.symm h)]
  rfl

/-- A change into another band (R157, R160). -/
theorem bandChange_of_ne_stop {b : Band} (hb : b ≠ .stop) (h : b ≠ s.handset.band) :
    bandChange b s =
      if s.resumesOn b = true then resumeGesture (noteBandChange b (s.setDecoder (s.handset.toBand s.time b)))
      else noteBandChange b (s.setDecoder (s.handset.toBand s.time b)) := by
  unfold bandChange
  rw [if_neg h]
  exact if_neg hb

/-- A change into ABSENT stops the gesture timers and nothing else (R157). -/
theorem bandChange_absent (h : s.handset.band ≠ .absent) :
    bandChange .absent s =
      s.setHandset { s.handset with band := .absent, stopTimer := none, stopHeld := false, resetTimer := none } := by
  have hquiet : ¬s.resumesOn .absent = true := by simp [State.resumesOn]
  rw [bandChange_of_ne_stop (by decide) h.symm, if_neg hquiet, setDecoder_of_ne_stop (by simp [Handset.toBand])]
  simp [noteBandChange, Handset.toBand]

theorem noteBandChange_eq (b : Band) :
    noteBandChange b s = s.setSpacing { s.spacing with autoEntry := s.spacing.autoEntry || decide (b = .auto) } := by
  unfold noteBandChange
  split
  · next h => simp [h]
  · next h =>
    simp only [h, decide_false, Bool.or_false]
    rfl

/-- A pulse that leaves its old band for one other than STOP finds AUTO or DRIVE (R157). -/
theorem bandAfter_cases (b : Band) (w : Nat) :
    bandAfter b w = .auto ∨ bandAfter b w = .drive ∨ bandAfter b w = .stop ∨ bandAfter b w = b := by
  unfold bandAfter
  repeat' split
  all_goals simp

theorem ranFor_iff {timer : Running} {now : Time} {period : Nat} :
    timer.ranFor now period = true ↔ ∃ start, timer = some start ∧ period ≤ (now - start).toNat := by
  cases timer with
  | none => simp [Running.ranFor]
  | some start =>
    constructor
    · exact fun h => ⟨start, rfl, of_decide_eq_true h⟩
    · rintro ⟨_, ⟨⟩, h⟩
      exact decide_eq_true h

/-! ### Orders (R160, R164, R166) -/

theorem mayIssue_iff : s.mayIssue = true ↔ s.spacing.role = .head ∧ s.mode ≠ .start ∧ s.mode ≠ .lockout := by
  simp [State.mayIssue, State.stackClosed]

theorem issueOrder_eq (code : OrderCode) (s : State) :
    issueOrder code s =
      if s.spacing.role = .head ∧ s.mode ≠ .start ∧ s.mode ≠ .lockout then
        actOnOrder code (s.setOrder (s.order.issued code s.ownId))
      else s := by
  simp only [issueOrder, mayIssue_iff]

theorem ite_ite_of_common {α : Type} {p q r : Prop} [Decidable p] [Decidable q] [Decidable r] (x y : α) :
    (if p ∧ q then (if q ∧ r then x else y) else y) = if p ∧ q ∧ r then x else y := by
  by_cases p <;> by_cases q <;> simp [*]

theorem releaseHold_order (cause : HoldCause) : (releaseHold cause s).order = s.order := by
  rw [releaseHold_frame]
  rfl

theorem releaseHold_ownId (cause : HoldCause) : (releaseHold cause s).ownId = s.ownId := by
  rw [releaseHold_frame]
  rfl

theorem releaseHold_obst (cause : HoldCause) :
    (releaseHold cause s).sensors = s.sensors ∧ (releaseHold cause s).config = s.config := by
  rw [releaseHold_frame]
  exact ⟨rfl, rfl⟩

end Sys2Proof.Machine

namespace Sys2Proof.Proofs
open Sys2Proof.Machine

/-- Settles O45: the step's one equation, with the loop and the kill written out. -/
theorem driveStepRunsTheSpeedLoop : Obligations.DriveStepRunsTheSpeedLoop := by
  refine fun s => ⟨fun start hload hlock htimer hran => ?_, fun hpending => ?_, fun hidle => ?_⟩
  · intro c measured v counters killed e rest inc integral grade d output forced
    have hdue := stepDue_of_ran s hload hlock htimer hran
    refine (if_pos hdue).trans (next_congr ?_)
    have hagain : s.drive.stepTimer.again 20 = some (start + 20) := by
      rw [htimer]
      rfl
    beta_reduce
    rw [hagain, driveStep_eq]
    by_cases hkill : killed
    · rw [if_pos hkill, if_pos (killActive_iff.2 (by exact hkill))]
      rfl
    · rw [if_neg hkill, if_neg (mt killActive_iff.1 (by exact hkill))]
      rfl
  · exact next_congr (if_pos hpending)
  · exact next_congr (if_neg (by rw [hidle]; decide))

/-- Settles O46: a pulse outside the valid widths or in START does nothing; another is written by the decoder's equation. -/
theorem throttlePulsesSetTheThrottle : Obligations.ThrottlePulsesSetTheThrottle := by
  refine fun s w => ⟨fun h => next_congr (if_pos (h.imp id not_validPulse_iff.2)), fun hmode hlow hhigh => next_congr ?_⟩
  rw [throttlePulse_of_valid hmode hlow hhigh, State.setDecoder, withResetTimer_of_present rfl]
  have hthrottle : (if s.validConfig then throttleOf s.cfg.vMax w else 0) =
      if s.holds.lockout = .config ∨ w ≤ 1050 then 0 else if 1950 ≤ w then s.cfg.vMax else (w - 1050) * s.cfg.vMax / 900 := by
    simp only [validConfig_eq_true_iff, loading_eq_false_of_mode hmode, true_and, throttleOf]
    by_cases hlock : s.holds.lockout = .config
    · simp [hlock]
    · simp only [ne_eq, hlock, not_false_eq_true, if_true, false_or]
      grind
  have hlocked : (s.handset.resetLock && decide (1950 ≤ w)) = decide (s.handset.resetLock = true ∧ 1950 ≤ w) := by
    simp [Bool.decide_and]
  simp only [hthrottle, hlocked, decide_eq_true_eq]
  rfl

/-- Settles O47: the pulse is noted, and its band is the old one, STOP, or one that may resume. -/
theorem modePulsesChangeTheBand : Obligations.ModePulsesChangeTheBand := by
  refine fun s w => ⟨fun h => next_congr (if_pos (h.imp id not_validPulse_iff.2)), fun hmode hlow hhigh => ?_⟩
  intro band heard widest
  have hpulse := modePulse_of_valid hmode hlow hhigh
  refine ⟨fun hsame => next_congr ?_, fun hstop hnew => next_congr ?_, fun hstop hnew => ?_⟩
  · exact hpulse.trans (bandChange_of_same (by exact hsame))
  · have hold : s.handset.band ≠ .stop := fun h => hnew (hstop.trans h.symm)
    have hband : bandAfter s.handset.band w = .stop := hstop
    rw [hpulse, hband, bandChange_stop (by exact hold)]
    refine congrArg (pushHold .handsetStop none) ?_
    refine (congrArg (fun n : State => n.setDecoder (n.handset.toBand n.time .stop))
      (setDecoder_of_ne_stop (h := heard) (by exact hold))).trans ?_
    show s.setHandset (({ heard with resetTimer := none }.toBand s.time .stop).withResetTimer s.time) = _
    rw [withResetTimer_toBand_stop rfl]
    rfl
  · intro s1 resumes
    have hgo : band = .auto ∨ band = .drive := by
      rcases bandAfter_cases s.handset.band w with h | h | h | h
      · exact .inl h
      · exact .inr h
      · exact absurd h hstop
      · exact absurd h hnew
    let noted := s.setDecoder heard
    have hafter : noteBandChange band (noted.setDecoder (noted.handset.toBand noted.time band)) = s1 := by
      rw [noteBandChange_eq, setDecoder_of_ne_stop (by exact hstop)]
      have hdecided : (decide (band = .auto) || decide (band = .drive)) = true := by simpa using hgo
      simp only [Handset.toBand, hdecided, if_neg hstop, Bool.not_true, Bool.and_false]
      rfl
    have hresumes : noted.resumesOn band = true ↔ resumes := by
      show (decide (s.handset.band = .stop) && (decide (band = .auto) || decide (band = .drive)) &&
        s.handset.stopTimer.ranFor s.time 300) = true ↔ _
      simp only [Bool.and_eq_true, Bool.or_eq_true, decide_eq_true_eq, hgo, and_true, ranFor_iff]
      rfl
    have hchange : modePulse w s = _ := hpulse.trans (bandChange_of_ne_stop hstop (by exact hnew))
    refine ⟨fun hr => next_congr ?_, fun hr => next_congr ?_⟩
    · exact hchange.trans ((if_pos (hresumes.2 hr)).trans (congrArg resumeGesture hafter))
    · exact hchange.trans ((if_neg (mt hresumes.1 hr)).trans hafter)

/-- Settles O48: each channel's absence writes the decoder, and the long STOP issues its order. -/
theorem handsetLossAndLongStopAct : Obligations.HandsetLossAndLongStopAct := by
  intro s stopIf
  refine ⟨fun hpresent hsilent => ?_, fun hpresent hsilent hband => ?_, fun hpresent hsilent hband => ?_,
    fun since hsince hlong hheld => ?_⟩
  · have hdue : s.channelSilent .throttle = true := Bool.and_eq_true_iff.2 ⟨hpresent, decide_eq_true hsilent⟩
    refine (if_pos hdue).trans (next_congr ?_)
    simp only [channelAbsent, State.setDecoder]
    rw [withResetTimer_of_absent rfl]
    rfl
  · have hdue : s.channelSilent .mode = true := Bool.and_eq_true_iff.2 ⟨hpresent, decide_eq_true hsilent⟩
    refine (if_pos hdue).trans (next_congr ?_)
    simp only [channelAbsent]
    rw [bandChange_absent (by exact hband)]
    rfl
  · have hdue : s.channelSilent .mode = true := Bool.and_eq_true_iff.2 ⟨hpresent, decide_eq_true hsilent⟩
    refine (if_pos hdue).trans (next_congr ?_)
    simp only [channelAbsent]
    rw [bandChange_of_same (by exact hband.symm), setDecoder_of_ne_stop (by simp [hband])]
    exact if_neg fun h => absurd (hband.symm.trans h.1) (by decide)
  · have hdue : s.stopHeldLong = true := by
      rw [State.stopHeldLong, ranFor_of_start hsince hlong, hheld]
      rfl
    exact (if_pos hdue).trans (next_congr (issueOrder_eq .stopAll _))

/-- Settles O43: the join copy by what the table holds, and the gesture with its releases and its order. -/
theorem ordersAreCopiedAndResumed : Obligations.OrdersAreCopiedAndResumed := by
  refine ⟨fun s id => ⟨fun hlock => if_pos hlock, fun hopen => ⟨fun r part hr hpart => ?_, fun hnone => ?_,
    fun r hr hpart => ?_⟩⟩, fun s => ?_⟩
  · unfold joinNotice
    rw [if_neg hopen, hr]
    simp only [hpart]
    rfl
  · have hfind : s.peers.records.find? (fun x => decide (x.id = id)) = none :=
      List.find?_eq_none.2 fun r hr => by simpa using hnone r hr
    unfold joinNotice
    rw [if_neg hopen, hfind]
    rfl
  · unfold joinNotice
    rw [if_neg hopen, hr]
    simp only [hpart]
    rfl
  · intro s1 s2 issued
    have hnotice : resumeNotice s1 = s2 := by
      obtain ⟨hsensors, hconfig⟩ : s1.sensors = s.sensors ∧ s1.config = s.config :=
        ⟨(releaseHold_obst _).1.trans (releaseHold_obst _).1, (releaseHold_obst _).2.trans (releaseHold_obst _).2⟩
      simp only [resumeNotice, State.cfg, hsensors, hconfig]
      rfl
    have horder : s2.order = s.order := by
      have hs1 : s1.order = s.order := (releaseHold_order _).trans (releaseHold_order _)
      simp only [s2]
      split
      · exact (releaseHold_order _).trans hs1
      · exact hs1
    have hid : s2.ownId = s.ownId := by
      have hs1 : s1.ownId = s.ownId := (releaseHold_ownId _).trans (releaseHold_ownId _)
      simp only [s2]
      split
      · exact (releaseHold_ownId _).trans hs1
      · exact hs1
    show (if (resumeNotice s1).order.lastIssued = .stopAll ∧ (resumeNotice s1).spacing.role = .head then
      issueOrder .resumeAll (resumeNotice s1) else resumeNotice s1) = _
    rw [hnotice, issueOrder_eq, horder, hid]
    exact ite_ite_of_common _ _

end Sys2Proof.Proofs
end

section
/-!
PROOFS. A push and a release, the changes of a narrow relation, and the timers of the Narrow Unit and the Peer Table (O31, O33,
O36, O49).
-/

namespace Sys2Proof.Machine

variable {s t : State}

/-! ### The beacon of a station that leaves PARKED -/

theorem beaconFarAhead_iff : s.beaconFarAhead = true ↔
    ∃ x ∈ s.air.beaconTimer, 10 * s.cfg.pB + 10 * s.cfg.pB / 4 < x.period - (s.time - x.start).toNat := by
  unfold State.beaconFarAhead
  cases s.air.beaconTimer with
  | none => simp
  | some x =>
    constructor
    · exact fun h => ⟨x, rfl, of_decide_eq_true h⟩
    · rintro ⟨_, ⟨⟩, h⟩
      exact decide_eq_true h

theorem noteModeChange_eq (before : Mode) (t : State) :
    noteModeChange before t =
      if before = .parked ∧ t.mode ≠ .parked ∧
        (∃ x ∈ t.air.beaconTimer, 10 * t.cfg.pB + 10 * t.cfg.pB / 4 < x.period - (t.time - x.start).toNat) then
        scheduleBeacon (10 * t.cfg.pB) t
      else t := by
  simp only [noteModeChange, beaconFarAhead_iff]
  rfl

theorem noteModeChange_beaconNow (before : Mode) : (noteModeChange before s).air.beaconNow = s.air.beaconNow := by
  unfold noteModeChange
  split <;> rfl

theorem pushHold_beaconNow (cause : HoldCause) (lost : Option Nat) :
    (pushHold cause lost s).air.beaconNow = s.air.beaconNow := by
  rcases pushHold_cases s cause lost with ⟨-, h⟩ | ⟨-, -, h⟩ | ⟨-, -, -, h⟩ | ⟨-, -, -, h⟩ <;> rw [h]
  all_goals exact noteModeChange_beaconNow _

/-! ### A push and a release (R118 to R123) -/

theorem reviveIn_eq (stack : List HoldRecord) (cause : HoldCause) (now : Time) (lost : Option Nat) :
    reviveIn stack cause now lost = stack.map fun r =>
      if r.cause = cause then
        { r with released := false, pushedAt := now, lostId := if cause = .linkLoss then lost else r.lostId }
      else r := by
  refine List.map_congr_left fun r _ => ?_
  by_cases h : r.cause = cause
  · rw [if_pos h, if_pos h, HoldRecord.revived, h]
  · rw [if_neg h, if_neg h]

theorem lockoutNotice_eq_kill (d : DriveUnit) :
    d.kill = { d with
      integral := 0, updatePending := false
      buffer := if 0 < d.vMeas then { state := .brake, duty := -1023 } else { state := .brakeHold, duty := 0 }
      applied := if 0 < d.vMeas then { state := .brake, duty := -1023 } else { state := .brakeHold, duty := 0 } } := rfl

theorem bottomPlacedParked_iff {stack : List HoldRecord} :
    bottomPlacedParked stack = true ↔ ∃ r, stack.getLast? = some r ∧ r.modeBefore = .parked := by
  unfold bottomPlacedParked
  cases stack.getLast? <;> simp

/-- A station with an unreleased hold is not PARKED. -/
theorem mode_ne_parked_of_unreleased {cause : HoldCause} (hopen : s.stackClosed = false)
    (hheld : s.holds.unreleased cause = true) : s.mode ≠ .parked := by
  obtain ⟨hload, hlock⟩ := stackClosed_eq_false.1 hopen
  obtain ⟨r, hr, -, hrel⟩ := unreleased_iff.1 hheld
  have hidle := loading_eq_false_iff.1 hload
  by_cases hhalts : s.holds.Halts
  · rw [mode_of_halts hidle hlock hhalts]
    decide
  · have hwaits : s.holds.Waits := (HoldStack.any_unreleased_iff hhalts).1 (List.any_eq_true.2 ⟨r, hr, by simp [hrel]⟩)
    rw [mode_of_waits hidle hlock hhalts hwaits]
    decide

/-- A release that acts never moves the beacon: the station was not PARKED. -/
theorem releaseHold_of_unreleased {cause : HoldCause} (hopen : s.stackClosed = false) (hheld : s.holds.unreleased cause = true) :
    releaseHold cause s = parkReturn s.holds.stack (releaseNotice cause
      (s.setHolds { s.holds with stack := popCascade (markReleased s.holds.stack cause) })) := by
  rcases releaseHold_cases s cause with ⟨hno, -⟩ | ⟨-, -, h⟩
  · rw [hopen, hheld] at hno
    exact hno.elim nofun nofun
  · rw [h, noteModeChange_of_ne_parked (mode_ne_parked_of_unreleased hopen hheld)]

theorem releaseHold_beaconNow (cause : HoldCause) : (releaseHold cause s).air.beaconNow = s.air.beaconNow := by
  rcases releaseHold_cases s cause with ⟨-, h⟩ | ⟨hopen, hheld, -⟩
  · rw [h]
  · rw [releaseHold_of_unreleased hopen hheld, parkReturn_frame, releaseNotice_frame]
    rfl

/-- What a release that acts leaves, block by block. -/
theorem parkReturn_releaseNotice (cause : HoldCause) (before left : List HoldRecord) (s : State) :
    parkReturn before (releaseNotice cause (s.setHolds { s.holds with stack := left })) =
      { s with
        holds := { s.holds with stack := left }
        drive := if cause = .obstruction then { s.drive with obstructionKill := false } else s.drive
        spacing := if left = [] ∧ bottomPlacedParked before = true then s.spacing.parkedAs s.ownId else s.spacing } := by
  have hnotice : releaseNotice cause (s.setHolds { s.holds with stack := left }) =
      { s with
        holds := { s.holds with stack := left }
        drive := if cause = .obstruction then { s.drive with obstructionKill := false } else s.drive } := by
    unfold releaseNotice
    split <;> rfl
  rw [hnotice]
  by_cases hpark : left = [] ∧ bottomPlacedParked before = true
  · rw [if_pos hpark]
    exact if_pos hpark
  · rw [if_neg hpark]
    exact if_neg hpark

/-! ### Changes of a relation (R148) -/

theorem releaseWaitIf_beaconNow (b : Bool) : (releaseWaitIf b s).air.beaconNow = s.air.beaconNow := by
  rcases releaseWaitIf_cases s b with h | ⟨-, h⟩ <;> rw [h]
  exact releaseHold_beaconNow _

theorem beaconNowIf_beaconNow (b : Bool) : (beaconNowIf b s).air.beaconNow = (s.air.beaconNow || b) := by
  rw [beaconNowIf_frame, Bool.or_comm]
  rfl

/-- NARROW_WAIT after the change of a relation that released it if the relation was WAITING. -/
theorem releaseWaitIf_holds (hopen : s.stackClosed = false) (rel : Relation) :
    (rel = .waiting → (releaseWaitIf (decide (rel = .waiting)) s).holds.unreleased .narrowWait = false) ∧
    (rel ≠ .waiting → (releaseWaitIf (decide (rel = .waiting)) s).holds = s.holds) := by
  refine ⟨fun h => ?_, fun h => ?_⟩
  · rw [decide_eq_true h]
    exact releaseHold_unreleased_self hopen
  · rw [decide_eq_false h]
    rfl

theorem enterWaiting_of_room {i : Nat} (hroom : s.pushOverruns .narrowWait = false) :
    enterWaiting i s =
      beaconNowIf (decide ((s.narrowRecord i).relation = .holding))
        ((pushHold .narrowWait none (s.setNarrowRecord i (s.narrowRecord i).toWaiting)).setNarrow
          { s.narrow with
            records := s.narrow.records.set i (s.narrowRecord i).toWaiting, waitAgeTimer := some s.time }) := by
  unfold enterWaiting
  rw [if_neg (by simp [hroom])]
  dsimp only
  rw [pushHold_narrow]
  rfl

/-- A station with an unreleased NARROW_WAIT, neither loading nor locked out, waits or halts. -/
theorem mode_of_narrowWait (hopen : s.stackClosed = false) (hheld : s.holds.unreleased .narrowWait = true) :
    s.mode = .wait ∨ s.mode = .halt := by
  obtain ⟨hload, hlock⟩ := stackClosed_eq_false.1 hopen
  obtain ⟨r, hr, -, hrel⟩ := unreleased_iff.1 hheld
  have hidle := loading_eq_false_iff.1 hload
  by_cases hhalts : s.holds.Halts
  · exact .inr (mode_of_halts hidle hlock hhalts)
  · exact .inl (mode_of_waits hidle hlock hhalts
      ((HoldStack.any_unreleased_iff hhalts).1 (List.any_eq_true.2 ⟨r, hr, by simp [hrel]⟩)))

/-! ### The first element that meets a test -/

theorem findNarrow_of_split {p : NarrowRecord → Bool} {before after : List NarrowRecord} {r : NarrowRecord}
    (hrecords : s.narrow.records = before ++ r :: after) (hbefore : ∀ x ∈ before, p x = false) (hr : p r = true) :
    s.findNarrow p = some before.length ∧ s.narrowRecord before.length = r := by
  have hnone : before.findIdx? p = none := List.findIdx?_eq_none_iff.2 hbefore
  constructor
  · rw [State.findNarrow, hrecords, List.findIdx?_append, hnone]
    simp [List.findIdx?_cons, hr]
  · exact narrowRecord_eq_of_getElem? (by rw [hrecords, List.getElem?_append_right (le_refl _)]; simp)

theorem setNarrowRecord_of_split {before after : List NarrowRecord} {r : NarrowRecord}
    (hrecords : s.narrow.records = before ++ r :: after) (new : NarrowRecord) :
    s.setNarrowRecord before.length new = s.setNarrow { s.narrow with records := before ++ new :: after } := by
  rw [State.setNarrowRecord, hrecords, List.set_append_right _ _ (le_refl _)]
  simp

end Sys2Proof.Machine

namespace Sys2Proof.Proofs
open Sys2Proof.Machine

/-- Settles O49: the four outcomes of a push and the two of a release, each with its companions written out. -/
theorem holdsArePushedAndReleased : Obligations.HoldsArePushedAndReleased := by
  intro s cause lost due
  refine ⟨fun hclosed => ?_, fun hfree => ?_, fun hstart hlockout => ⟨fun hhas => ?_, fun hnew hroom => ?_,
    fun hnew hfull => ?_⟩, fun hstart hlockout hheld => ?_⟩
  · have hclosed' : s.stackClosed = true := by rcases hclosed with h | h <;> simp [State.stackClosed, h]
    exact ⟨if_pos hclosed', if_pos (by simp [hclosed'])⟩
  · exact if_pos (by simp [hfree])
  · have hopen : s.stackClosed = false := (stackClosed_eq_false_iff s).2 ⟨hstart, hlockout⟩
    have hpush : pushHold cause lost s =
        noteModeChange s.mode (s.setHolds { s.holds with stack := reviveIn s.holds.stack cause s.time lost }) := by
      simp [pushHold, hopen, hhas]
    rw [hpush, reviveIn_eq]
    exact noteModeChange_eq _ _
  · have hopen : s.stackClosed = false := (stackClosed_eq_false_iff s).2 ⟨hstart, hlockout⟩
    have hpush : pushHold cause lost s =
        noteModeChange s.mode (s.setHolds { s.holds with stack := newHold cause lost s :: s.holds.stack }) := by
      simp [pushHold, hopen, hnew, hroom]
    rw [hpush]
    exact noteModeChange_eq _ _
  · have hopen : s.stackClosed = false := (stackClosed_eq_false_iff s).2 ⟨hstart, hlockout⟩
    have hpush : pushHold cause lost s =
        noteModeChange s.mode ((s.setHolds { s.holds with lockout := .holdOverrun }).setDrive s.drive.kill) := by
      simp [pushHold, hopen, hnew, not_lt.2 hfull, enterLockout, lockoutNotice]
    rw [hpush]
    exact noteModeChange_eq _ _
  · have hopen : s.stackClosed = false := (stackClosed_eq_false_iff s).2 ⟨hstart, hlockout⟩
    intro t left returns
    have ht : t = _ := (releaseHold_of_unreleased hopen hheld).trans (parkReturn_releaseNotice _ _ _ _)
    rw [ht]
    refine ⟨rfl, rfl, rfl, fun h => ?_, fun h => ?_, rfl⟩
    · exact if_pos ⟨h.1, bottomPlacedParked_iff.2 h.2⟩
    · exact if_neg fun hp => h ⟨hp.1, bottomPlacedParked_iff.1 hp.2⟩

/-- Settles O33: each change by its record, its push or release, and its beacon. -/
theorem relationChangesHaveTheirCompanions : Obligations.RelationChangesHaveTheirCompanions := by
  intro s i r hr hstart hlockout only
  have hopen : s.stackClosed = false := (stackClosed_eq_false_iff s).2 ⟨hstart, hlockout⟩
  have hrec : s.narrowRecord i = r := narrowRecord_eq_of_getElem? hr
  refine ⟨fun hroom => ?_, fun hnew hfull => ?_, fun inherited => ?_, ?_, fun hrel => ?_⟩
  · have hroom' : s.pushOverruns .narrowWait = false := by
      rcases hroom with h | h <;> simp [State.pushOverruns, h]
    intro t
    have ht : t = _ := enterWaiting_of_room hroom'
    obtain ⟨air, h, d, hpushed, -, -, hpush⟩ :=
      pushHold_pushedTo (s := s.setNarrowRecord i (s.narrowRecord i).toWaiting) hopen .narrowWait none
    obtain ⟨hheld, hlock⟩ := hpushed.unreleased hroom
    have hbeacon : air.beaconNow = s.air.beaconNow := by
      have hkept := pushHold_beaconNow (s := s.setNarrowRecord i (s.narrowRecord i).toWaiting) .narrowWait none
      rwa [hpush] at hkept
    rw [hrec] at ht hpush
    rw [hpush] at ht
    obtain ⟨hidle, hfree⟩ := stackClosed_eq_false.1 hopen
    have hload : t.loading = s.loading := congrArg (fun l : Loader => decide (l.phase ≠ .idle)) (enterWaiting_outside i).loader
    have hheld' : t.holds.unreleased .narrowWait = true := by
      rw [ht, beaconNowIf_holds]
      exact hheld
    have hopen' : t.stackClosed = false := by
      refine stackClosed_eq_false.2 ⟨hload.trans hidle, ?_⟩
      rw [ht, beaconNowIf_holds]
      exact hlock.trans hfree
    refine ⟨⟨?_, ?_⟩, ?_, hheld', mode_of_narrowWait hopen' hheld', ?_⟩
    · rw [ht, beaconNowIf_frame]
      rfl
    · rw [ht, beaconNowIf_frame]
      rfl
    · rw [ht, beaconNowIf_frame]
      rfl
    · rw [ht, beaconNowIf_beaconNow]
      exact congrArg (· || decide (r.relation = .holding)) hbeacon
  · intro t
    have hover : s.pushOverruns .narrowWait = true := by simp [State.pushOverruns, hopen, hnew, hfull]
    have ht : t = pushHold .narrowWait none s := if_pos hover
    obtain ⟨air, h, d, hpushed, -, -, hpush⟩ := pushHold_pushedTo hopen .narrowWait none
    rw [ht, hpush]
    have hh := hpushed.overruns hnew hfull
    refine ⟨rfl, (mode_eq_lockout_iff).2 ⟨(stackClosed_eq_false.1 hopen).1, ?_⟩, hh⟩
    show h.lockout ≠ .none
    rw [hh]
    exact nofun
  · intro t
    obtain ⟨hreleased, hkept⟩ := releaseWaitIf_holds (s := s.setNarrowRecord i (r.toHolding inherited)) hopen r.relation
    have ht : t = _ := enterHolding_eq s i inherited
    have hnarrow := enterHolding_records s i inherited
    rw [hrec] at ht hnarrow
    refine ⟨⟨congrArg NarrowUnit.records hnarrow, (congrArg NarrowUnit.queue hnarrow).trans rfl⟩, ?_, ?_, ?_⟩
    · rw [ht]
      rfl
    · rw [ht]
      exact hreleased
    · rw [ht]
      exact hkept
  · rw [enterAsking, hrec]
    rfl
  · intro t
    obtain ⟨hreleased, hkept⟩ := releaseWaitIf_holds (s := s.setNarrowRecord i r.toNone) hopen r.relation
    have hnarrow := dropRelation_records s i (hrec ▸ hrel)
    have ht : t = _ := ((dropRelation_cases s i).resolve_left fun h => hrel (hrec ▸ h.1)).2
    rw [hrec] at ht hnarrow
    refine ⟨⟨congrArg NarrowUnit.records hnarrow, (congrArg NarrowUnit.queue hnarrow).trans rfl⟩, ?_, ?_, ?_⟩
    · rw [ht, beaconNowIf_beaconNow, releaseWaitIf_beaconNow]
      rfl
    · rw [ht, beaconNowIf_holds]
      exact hreleased
    · rw [ht, beaconNowIf_holds]
      exact hkept

/-- Settles O31. -/
theorem sweepRemovesOldRecords : Obligations.SweepRemovesOldRecords :=
  fun _ hdue => if_pos (decide_eq_true hdue)

/-- Settles O36: the record or the entry a timer names is the first that meets its test. -/
theorem narrowTimersRunOut : Obligations.NarrowTimersRunOut := by
  refine fun s => ⟨fun before r after t hrecords hask hdue hbefore => ?_, fun before r after t hrecords hend hdue hround hbefore
    hmode => ?_, fun hmode => ?_, fun before e after hqueue hbefore hhand hold => ?_, fun start hstart hran => ?_⟩
  · have hp : r.askTimeReached s.time = true := by
      simp only [NarrowRecord.askTimeReached, hask]
      exact decide_eq_true hdue
    have hnot (x : NarrowRecord) (hx : x ∈ before) : x.askTimeReached s.time = false := by
      have hx' := hbefore x hx
      unfold NarrowRecord.askTimeReached
      cases hxa : x.ask with
      | scheduled u => exact absurd hxa (hx' u)
      | _ => rfl
    obtain ⟨hfind, hrec⟩ := findNarrow_of_split hrecords hnot hp
    have hexec : exec .askDue s = done (askDue before.length s) := by
      simp only [exec, execAskDue, State.askTime, hfind]
    rw [hexec, askDue, hrec, setNarrowRecord_of_split hrecords]
    rfl
  · have hp : r.windowReached s.time = true := by
      simp only [NarrowRecord.windowReached, hend, Timer.expired, Bool.and_eq_true]
      exact ⟨by simpa [NarrowRecord.inRound] using hround, decide_eq_true hdue⟩
    have hnot (x : NarrowRecord) (hx : x ∈ before) : x.windowReached s.time = false := by
      simp [NarrowRecord.windowReached, hbefore x hx]
    obtain ⟨hfind, -⟩ := findNarrow_of_split hrecords hnot hp
    have hwindow : s.windowTime = some before.length := (if_neg hmode).trans hfind
    simp only [exec, execAnswerWindowEnd, hwindow]
    rfl
  · have hwindow : s.windowTime = none := if_pos hmode
    simp only [exec, execAnswerWindowEnd, hwindow]
  · have hp : e.expired s.time s.cfg.wAns = true := by
      simp only [AnswerEntry.expired, hhand, Bool.not_false, Bool.true_and]
      exact decide_eq_true hold
    have hnot (x : AnswerEntry) (hx : x ∈ before) : ¬x.expired s.time s.cfg.wAns = true := by
      simp only [AnswerEntry.expired, Bool.and_eq_true, Bool.not_eq_true', decide_eq_true_eq, not_and, not_le]
      exact fun hh => (hbefore x hx).resolve_left (by simp [hh])
    have hdue : s.answerDue = true := List.any_eq_true.2 ⟨e, by simp [hqueue], hp⟩
    have herase : s.narrow.queue.eraseP (fun e => e.expired s.time s.cfg.wAns) = before ++ after := by
      rw [hqueue, List.eraseP_append_right _ hnot, List.eraseP_cons_of_pos (by exact hp)]
    refine (if_pos hdue).trans (next_congr ?_)
    rw [expireAnswer, herase]
    rfl
  · have hdue := ranFor_of_start (now := s.time) hstart hran
    refine (if_pos hdue).trans (next_congr ?_)
    have hagain : s.narrow.waitAgeTimer.again 100 = some (start + 100) := by
      rw [hstart]
      rfl
    unfold waitAgeExpiry
    rw [hagain]
    split <;> rfl

end Sys2Proof.Proofs
end

section
/-!
PROOFS. The Air Port's sending side: the jitter generator, the arbiter, carrier sense, the frames it builds, and their outcomes
(O21, O24 to O28).
-/

namespace Sys2Proof.Machine

variable {s t : State}

/-! ### The jitter generator (R30, R31) -/

theorem getMsbD_jitterStep_zero (x : Word16) :
    (jitterStep x).getMsbD 0 = ((x.getMsbD 15 ^^ x.getMsbD 13) ^^ (x.getMsbD 12 ^^ x.getMsbD 10)) := by
  unfold jitterStep
  cases h : ((x.getLsbD 0 ^^ x.getLsbD 2) ^^ (x.getLsbD 3 ^^ x.getLsbD 5)) <;> simpa [BitVec.getMsbD] using h.symm

theorem getMsbD_jitterStep_succ (x : Word16) {i : Nat} (h : i < 15) : (jitterStep x).getMsbD (i + 1) = x.getMsbD i := by
  unfold jitterStep
  have hbit : (0x8000#16).getLsbD (14 - i) = false := by interval_cases i <;> rfl
  have hplace : 15 - (i + 1) = 14 - i := by omega
  have hshift : 1 + (14 - i) = 15 - i := by omega
  have hin : i + 1 < 16 ∧ i < 16 := by omega
  cases ((x.getLsbD 0 ^^ x.getLsbD 2) ^^ (x.getLsbD 3 ^^ x.getLsbD 5)) <;>
    simp [BitVec.getMsbD, hbit, hplace, hshift, hin]

theorem toNat_jitterSeed (id : Nat) (now : Time) :
    (jitterSeed id now).toNat =
      if (id * 2053 + now.toNat % 65536) % 65536 = 0 then 1 else (id * 2053 + now.toNat % 65536) % 65536 := by
  have hzero : BitVec.ofNat 16 (id * 2053 + now.toNat % 65536) = 0#16 ↔ (id * 2053 + now.toNat % 65536) % 65536 = 0 := by
    rw [← BitVec.toNat_inj, BitVec.toNat_ofNat]
    rfl
  unfold jitterSeed
  dsimp only
  by_cases h : (id * 2053 + now.toNat % 65536) % 65536 = 0
  · rw [if_pos (hzero.2 h), if_pos h]
    rfl
  · rw [if_neg (mt hzero.1 h), if_neg h, BitVec.toNat_ofNat]

/-! ### Waiting classes and the grant (R35, R36) -/

theorem classWaits_object_iff : s.classWaits .object = true ↔ ∃ e ∈ s.narrow.queue, e.inHand = false := by
  simp [State.classWaits]

theorem classWaits_ask_iff :
    s.classWaits .ask = true ↔ s.mode ≠ .lockout ∧ ∃ r ∈ s.narrow.records, r.ask = .outstanding false := by
  simp [State.classWaits, NarrowRecord.askWaits, and_comm]

theorem classWaits_beacon_iff :
    s.classWaits .beacon = true ↔
      (s.loading = false ∧ s.holds.lockout ≠ .config) ∧ (s.air.beaconDue = true ∨ s.air.beaconNow = true) := by
  simp [State.classWaits, validConfig_eq_true_iff]

theorem nextClass_of_split {first rest : List FrameClass} {c : FrameClass} (hrotation : s.air.rotation = first ++ c :: rest)
    (hfirst : ∀ x ∈ first, s.classWaits x = false) (hc : s.classWaits c = true) : s.nextClass = some c := by
  have hnone : first.find? s.classWaits = none := List.find?_eq_none.2 fun x hx => by simp [hfirst x hx]
  rw [State.nextClass, hrotation, List.find?_append, hnone, List.find?_cons_of_pos hc]
  rfl

/-- A rotation of distinct classes sends one of them to its end. -/
theorem rotate_of_split {first rest : List FrameClass} {c : FrameClass} (h : (first ++ c :: rest).Nodup) :
    rotate (first ++ c :: rest) c = first ++ rest ++ [c] := by
  rw [List.nodup_append] at h
  obtain ⟨-, hrest, hdisjoint⟩ := h
  have hfirst : first.filter (fun x => decide (x ≠ c)) = first :=
    List.filter_eq_self.2 fun x hx => decide_eq_true (hdisjoint x hx c (by simp))
  have hrest' : rest.filter (fun x => decide (x ≠ c)) = rest :=
    List.filter_eq_self.2 fun x hx => decide_eq_true fun h => (List.nodup_cons.1 hrest).1 (h ▸ hx)
  rw [rotate, List.filter_append, hfirst, List.filter_cons_of_neg (by simp), hrest']

theorem channelClear_iff : s.channelClear = true ↔ s.air.busy = false ∧ s.air.reception.isOpen = false := by
  simp [State.channelClear]

/-- In SENSE the channel decides (R37). -/
theorem startBackoff_of_sense {c : FrameClass} {n : Nat} {since : Option Time} (h : s.air.transmitter = .sense c n since) :
    startBackoff s =
      if s.air.busy = false ∧ s.air.reception.isOpen = false then
        s.afterDraw.setTransmitter (.backoff c n { start := s.time, period := s.drawValue % 8 * 4 })
      else s := by
  simp only [startBackoff, h, channelClear_iff]

theorem takeInHand_of_split {before after : List AnswerEntry} {e : AnswerEntry} (hbefore : ∀ x ∈ before, x.inHand = true)
    (he : e.inHand = false) : takeInHand (before ++ e :: after) = before ++ { e with inHand := true } :: after := by
  induction before with
  | nil => simp [takeInHand, he]
  | cons x xs ih =>
    obtain ⟨hx, hxs⟩ := List.forall_mem_cons.1 hbefore
    simp [takeInHand, hx, ih hxs]

/-- What a grant takes, class by class, in one equation. -/
theorem takeGrant_eq (c : FrameClass) (s : State) :
    takeGrant c s =
      { s with
        air := { s.air with
          beaconNow := if c = .beacon then false else s.air.beaconNow
          beaconDue := if c = .beacon then false else s.air.beaconDue }
        narrow := { s.narrow with
          queue := if c = .object then takeInHand s.narrow.queue else s.narrow.queue
          records := if c = .ask then grantAsk s.narrow.records else s.narrow.records } } := by
  cases c <;> rfl

theorem grantAsk_eq (records : List NarrowRecord) :
    grantAsk records = records.map fun r => if r.ask = .outstanding false then { r with ask := .outstanding true } else r :=
  List.map_congr_left fun r _ => by simp only [NarrowRecord.askWaits, decide_eq_true_eq]

/-! ### Busy attempts and dropped frames (R37 to R39) -/

theorem busyAttempt_eq (c : FrameClass) (n : Nat) (s : State) :
    busyAttempt c n s =
      if n < 7 then s.setTransmitter (.sense c (n + 1) s.busyMeasure) else dropFrame c s := by
  unfold busyAttempt
  exact if_congr (by omega) rfl rfl

theorem loseAttempt_of_backoff {c : FrameClass} {n : Nat} {slots : Timer} (h : s.air.transmitter = .backoff c n slots) :
    loseAttempt s = busyAttempt c n s := by
  simp only [loseAttempt, h]

theorem loseAttempt_of_ne_backoff (h : ∀ c n slots, s.air.transmitter ≠ .backoff c n slots) : loseAttempt s = s := by
  unfold loseAttempt
  split
  · next hb => exact absurd hb (h _ _ _)
  · rfl

theorem busyAsserted_of_sense {c : FrameClass} {n : Nat} {since : Option Time} (h : s.air.transmitter = .sense c n since) :
    busyAsserted s = (s.setAir { s.air with busy := true }).setTransmitter (.sense c n (some s.time)) := by
  unfold busyAsserted
  dsimp only
  split
  · next hs =>
    obtain ⟨rfl, rfl, rfl⟩ := Transmitter.sense.inj (h.symm.trans hs)
    rfl
  · next hs => exact absurd h (hs _ _ _)

theorem busyAsserted_of_ne_sense (h : ∀ c n since, s.air.transmitter ≠ .sense c n since) :
    busyAsserted s = loseAttempt (s.setAir { s.air with busy := true }) := by
  unfold busyAsserted
  dsimp only
  split
  · next hs => exact absurd hs (h _ _ _)
  · rfl

theorem busyCleared_of_sense {c : FrameClass} {n : Nat} {since : Option Time} (h : s.air.transmitter = .sense c n since) :
    busyCleared s = startBackoff ((s.setAir { s.air with busy := false }).setTransmitter (.sense c n none)) := by
  unfold busyCleared
  dsimp only
  split
  · next hs =>
    obtain ⟨rfl, rfl, rfl⟩ := Transmitter.sense.inj (h.symm.trans hs)
    rfl
  · next hs => exact absurd h (hs _ _ _)

theorem busyCleared_of_ne_sense (h : ∀ c n since, s.air.transmitter ≠ .sense c n since) :
    busyCleared s = s.setAir { s.air with busy := false } := by
  unfold busyCleared
  dsimp only
  split
  · next hs => exact absurd hs (h _ _ _)
  · rfl

theorem busyChange_true (h : s.air.busy = false) : busyChange true s = busyAsserted s := by simp [busyChange, h]

theorem busyChange_false (h : s.air.busy = true) : busyChange false s = busyCleared s := by simp [busyChange, h]

/-- One more attempt lost, the count below the eighth or at it. -/
theorem loseAttempt_eq {c : FrameClass} {n : Nat} {slots : Timer} (h : s.air.transmitter = .backoff c n slots) :
    loseAttempt s = if n < 7 then s.setTransmitter (.sense c (n + 1) s.busyMeasure) else dropFrame c s := by
  rw [loseAttempt_of_backoff h, busyAttempt_eq]

theorem receiveFrame_of_not_complete (h : ∀ f, s.air.reception ≠ .complete f) : receiveFrame s = s := by
  rcases receiveFrame_cases s with ⟨f, hf, -⟩ | ⟨f, hf, -⟩ | ⟨-, h'⟩
  · exact absurd hf (h f)
  · exact absurd hf (h f)
  · exact h'

/-- A SYNC opens a frame where none is open or waiting (R25). -/
theorem syncPulse_of_closed (h : s.air.reception = .closed) :
    syncPulse s =
      loseAttempt (s.setReception (.opened { stamp := s.time, count := none, taken := 0, buffer := [] })) := by
  unfold syncPulse
  rw [receiveFrame_of_not_complete (by simp [h])]
  simp [h, Reception.isOpen]

theorem effectivePeriod_eq (s : State) : s.effectivePeriod = if s.mode = .parked then 40 * s.cfg.pB else 10 * s.cfg.pB := by
  unfold State.effectivePeriod WorkingConfig.beaconPeriod
  split <;> omega

theorem askReports_of_none (h : s.mode = .lockout ∨ s.findNarrow NarrowRecord.askGranted = none) :
    askHandedReport s = s ∧ askDroppedReport s = s := by
  unfold askHandedReport askDroppedReport
  cases hfind : s.findNarrow NarrowRecord.askGranted with
  | none => exact ⟨rfl, rfl⟩
  | some i =>
    have hlock : s.mode = .lockout := h.resolve_right (by simp [hfind])
    exact ⟨if_pos hlock, if_pos hlock⟩

theorem askReports_of_some {i : Nat} (hmode : s.mode ≠ .lockout) (h : s.findNarrow NarrowRecord.askGranted = some i) :
    (askHandedReport s =
      if (s.narrowRecord i).asksSent + 1 < s.cfg.nAsk then
        scheduleAsk i { s.narrowRecord i with asksSent := (s.narrowRecord i).asksSent + 1 } s
      else s.setNarrowRecord i
        { s.narrowRecord i with
          asksSent := (s.narrowRecord i).asksSent + 1, ask := .none
          windowEnd := some { start := s.time, period := s.cfg.wAns } }) ∧
    askDroppedReport s = scheduleAsk i (s.narrowRecord i) s := by
  unfold askHandedReport askDroppedReport
  rw [h]
  exact ⟨if_neg hmode, if_neg hmode⟩

/-- An idle or a sending transmitter takes no notice of BUSY. -/
theorem busyChange_of_deaf {b : Bool} (hb : b ≠ s.air.busy)
    (h : s.air.transmitter = .idle ∨ ∃ c f sent, s.air.transmitter = .send c f sent) :
    busyChange b s = s.setAir { s.air with busy := b } := by
  unfold busyChange
  rw [if_neg hb]
  rcases h with h | ⟨c, f, sent, h⟩ <;> cases b <;> simp [busyAsserted, busyCleared, loseAttempt, h]

/-! ### Building and sending (R40 to R44) -/

theorem find?_of_split {α : Type} {p : α → Bool} {before after : List α} {x : α} (hbefore : ∀ y ∈ before, p y = false)
    (hx : p x = true) :
    (before ++ x :: after).find? p = some x ∧ (before ++ x :: after).eraseP p = before ++ after := by
  have hnone : before.find? p = none := List.find?_eq_none.2 fun y hy => by simp [hbefore y hy]
  have hnot (y : α) (hy : y ∈ before) : ¬p y = true := by simp [hbefore y hy]
  constructor
  · rw [List.find?_append, hnone, List.find?_cons_of_pos hx]
    rfl
  · rw [List.eraseP_append_right _ hnot, List.eraseP_cons_of_pos hx]

theorem opposite_iff {d e : Direction} : d = e.opposite ↔ e ≠ d := by cases d <;> cases e <;> decide

theorem higherPriority_iff {age id age' id' : Nat} :
    higherPriority age id age' id' = true ↔ age' < age ∨ (age = age' ∧ id < id') := by
  simp [higherPriority]

theorem answerStands_iff {e : AnswerEntry} : s.answerStands e = true ↔
    e.askerDirection ≠ s.road.direction ∧
      ((s.narrowRecord e.narrow).relation = .holding ∨
        (((s.narrowRecord e.narrow).relation = .asking ∨ (s.narrowRecord e.narrow).relation = .waiting) ∧
          (e.askerWaitAge < (s.narrowRecord e.narrow).waitAge ∨
            ((s.narrowRecord e.narrow).waitAge = e.askerWaitAge ∧ s.ownId < e.askerId)))) := by
  simp only [State.answerStands, Bool.and_eq_true, Bool.or_eq_true, decide_eq_true_eq, opposite_iff, higherPriority_iff]

/-- BACKOFF at its end on a clear channel builds its frame. -/
theorem exec_backoffEnd {c : FrameClass} {n : Nat} {slots : Timer} (h : s.air.transmitter = .backoff c n slots)
    (hran : slots.period ≤ (s.time - slots.start).toNat) (hbusy : s.air.busy = false)
    (hclosed : s.air.reception.isOpen = false) : exec .backoffEnd s = .next (settleLamps (buildFrame c s)) := by
  have hexpired : slots.expired s.time = true := decide_eq_true hran
  have hdue : s.backoffOver = true := by
    simp only [State.backoffOver, h, hexpired, channelClear_iff.2 ⟨hbusy, hclosed⟩, Bool.and_self]
  have heffect : backoffEnd s = buildFrame c s := by simp only [backoffEnd, h]
  exact (if_pos hdue).trans (next_congr heffect)

/-- The beacon built at this moment, with the related narrow read once. -/
theorem beaconNowBuilt_eq (s : State) :
    s.beaconNowBuilt =
      { first := decide (0 < s.air.firstCount), braking := s.reportSample.braking, sender := s.ownId
        direction := s.reportSample.direction, quality := s.reportSample.quality, sequence := s.air.sequence
        lead := s.sampleLead, front := s.reportSample.front, mode := s.mode, speed := s.reportSample.speed
        memberIndex := s.spacing.memberIndex, rigLength := s.road.rigLength, convoyId := s.spacing.convoyId
        narrow := match s.relatedNarrow with | none => 0 | some i => i
        relation := match s.relatedNarrow with | none => .none | some i => (s.narrowRecord i).relation
        orderCode := s.order.code, orderSeq := s.order.seq
        waitAge := match s.relatedNarrow with | none => 0 | some i => (s.narrowRecord i).waitAge
        orderHop := s.order.hop, period := if s.mode = .parked then 4 * s.cfg.pB else s.cfg.pB } := by
  have hperiod : s.effectivePeriod / 10 = if s.mode = .parked then 4 * s.cfg.pB else s.cfg.pB := by
    rw [effectivePeriod_eq]
    split <;> omega
  unfold State.beaconNowBuilt
  rw [hperiod]
  cases s.relatedNarrow <;> rfl

end Sys2Proof.Machine

namespace Sys2Proof.Proofs
open Sys2Proof.Machine

/-- Settles O21: the shift bit by bit, and the seed as a number. -/
theorem jitterDrawsAndSeeds : Obligations.JitterDrawsAndSeeds :=
  ⟨fun s hne => ⟨jitterStep_ne_zero hne, rfl, getMsbD_jitterStep_zero s.air.jitter,
    fun _ hi => getMsbD_jitterStep_succ s.air.jitter hi, rfl⟩, toNat_jitterSeed⟩

/-- Settles O24: what waits, what a due beacon writes, and the grant class by class. -/
theorem waitingClassesAreGranted : Obligations.WaitingClassesAreGranted := by
  refine fun s => ⟨⟨classWaits_object_iff, classWaits_ask_iff, classWaits_beacon_iff⟩, fun t hload hlock htimer hran => ?_,
    fun hidle hnone => ?_, fun first c rest hidle hrotation hsound hfirst hc => ?_,
    fun before e after hbefore he => takeInHand_of_split hbefore he⟩
  · have hdue : s.beaconTimeReached = true := by
      simp only [State.beaconTimeReached, htimer, (validConfig_eq_true_iff s).2 ⟨hload, hlock⟩, Bool.true_and]
      exact decide_eq_true hran
    exact if_pos hdue
  · have hdue : s.grantDue = false := by
      have hnext : s.nextClass = none := List.find?_eq_none.2 fun c hc => by simp [hnone c hc]
      simp [State.grantDue, hnext]
    exact whenDue_of_not_due (by simp [hdue])
  · intro clear drawn
    have hnext := nextClass_of_split hrotation hfirst hc
    have hdue : s.grantDue = true := by simp [State.grantDue, hidle, hnext]
    have heffect : arbiterGrant s = grant c s := by simp only [arbiterGrant, hidle, hnext]
    refine (if_pos hdue).trans (next_congr (heffect.trans ?_))
    unfold grant
    rw [hrotation, rotate_of_split (hrotation ▸ hsound.1), takeGrant_eq, startBackoff_of_sense rfl, grantAsk_eq]
    by_cases hclear : clear
    · rw [if_pos hclear, if_pos hclear]
      exact if_pos hclear
    · rw [if_neg hclear, if_neg hclear]
      exact if_neg hclear

/-- Settles O25: each class's drop, and the reports to the round that waits for them. -/
theorem transmitOutcomesReachTheirUnits : Obligations.TransmitOutcomesReachTheirUnits := by
  refine ⟨fun s => ⟨?_, rfl, rfl, fun _ => rfl⟩, fun s => ⟨askReports_of_none, fun i hmode hfind => askReports_of_some hmode hfind⟩⟩
  show scheduleBeacon s.effectivePeriod _ = _
  rw [effectivePeriod_eq]
  rfl

/-- Settles O26: by the transmitter's state and the level of the line. -/
theorem busyAttemptsAreCounted : Obligations.BusyAttemptsAreCounted := by
  refine fun s => ⟨fun b hb => next_congr (if_pos hb), fun b hb hdeaf => next_congr (busyChange_of_deaf hb hdeaf),
    fun c n slots h => ⟨fun hbusy => next_congr ?_, fun hbusy => next_congr ?_, fun hclosed => ?_⟩,
    fun c n since h => ⟨fun hbusy => next_congr ?_, fun hbusy => next_congr ?_, fun start hsince hlong => ?_⟩⟩
  · exact (busyChange_false hbusy).trans (busyCleared_of_ne_sense (by simp [h]))
  · rw [busyChange_true hbusy, busyAsserted_of_ne_sense (by simp [h]), loseAttempt_eq (by exact h)]
    rfl
  · intro opened
    refine next_congr ?_
    rw [syncPulse_of_closed hclosed, loseAttempt_eq (by exact h)]
    rfl
  · exact (busyChange_true hbusy).trans (busyAsserted_of_sense h)
  · rw [busyChange_false hbusy, busyCleared_of_sense h, startBackoff_of_sense rfl]
    by_cases hopen : s.air.reception.isOpen = true
    · rw [if_pos hopen]
      refine if_neg fun hclear => ?_
      have hshut : s.air.reception.isOpen = false := hclear.2
      exact absurd (hopen.symm.trans hshut) (by decide)
    · rw [if_neg hopen]
      exact if_pos ⟨rfl, Bool.eq_false_of_not_eq_true hopen⟩
  · have hdue : s.busyHeld = true := by
      rw [hsince] at h
      simp only [State.busyHeld, h]
      exact decide_eq_true hlong
    have heffect : busyAttemptTimeout s = busyAttempt c n s := by simp only [busyAttemptTimeout, h]
    refine (if_pos hdue).trans (next_congr ?_)
    rw [heffect, busyAttempt_eq]
    rfl

/-- Settles O27: by the class granted. -/
theorem framesAreBuiltAtTheMomentOfSending : Obligations.FramesAreBuiltAtTheMomentOfSending := by
  intro s c n slots h hran hbusy hclosed
  have hexec := exec_backoffEnd h hran hbusy hclosed
  refine ⟨?_, ?_, ?_⟩
  · rintro rfl sample related beacon
    refine hexec.trans (next_congr ?_)
    have hbeacon : s.beaconNowBuilt = beacon := (beaconNowBuilt_eq s).trans rfl
    show sendFrame .beacon (beaconBytes s.beaconNowBuilt) _ = _
    rw [hbeacon, sendFrame, show transmitFrame (beaconBytes beacon) = _ from transmitFrame_bytes (.beacon beacon)]
    rfl
  · rintro rfl waits
    refine ⟨fun i hmode hfind => hexec.trans (next_congr ?_), fun hnone => hexec.trans (next_congr ?_)⟩
    · have hbuild : buildFrame .ask s = sendFrame .ask (askBytes (s.askBuilt i)) s := by
        show buildAsk s = _
        unfold buildAsk
        rw [show s.findNarrow NarrowRecord.askGranted = some i from hfind]
        exact if_neg hmode
      rw [hbuild, sendFrame, show transmitFrame (askBytes (s.askBuilt i)) = _ from transmitFrame_bytes (.ask (s.askBuilt i))]
      rfl
    · show buildAsk s = _
      unfold buildAsk
      cases hfind : s.findNarrow NarrowRecord.askGranted with
      | none => rfl
      | some i => exact if_pos (hnone.resolve_right fun h => nomatch hfind.symm.trans h)
  · rintro rfl before e after hqueue hbefore he r stands
    obtain ⟨hfind, herase⟩ := find?_of_split (p := fun e : AnswerEntry => e.inHand) (after := after) hbefore he
    rw [← hqueue] at hfind herase
    have hbuild : buildFrame .object s =
        if s.answerStands e = true then
          sendFrame .object (objectBytes (s.objectBuilt e)) (s.setNarrow { s.narrow with queue := before ++ after })
        else ((s.setNarrow { s.narrow with queue := before ++ after }).setTransmitter .idle).setCounters
          { s.counters with answerWithdrawn := bump s.counters.answerWithdrawn } := by
      show buildAnswer s = _
      unfold buildAnswer
      rw [hfind, herase]
      rfl
    refine ⟨fun hstands => hexec.trans (next_congr ?_), fun hfails => hexec.trans (next_congr ?_)⟩
    · rw [hbuild, if_pos (answerStands_iff.2 hstands), sendFrame,
        show transmitFrame (objectBytes (s.objectBuilt e)) = _ from transmitFrame_bytes (.object (s.objectBuilt e))]
      rfl
    · rw [hbuild, if_neg (mt answerStands_iff.1 hfails)]
      rfl

/-- Settles O28: by what the transmitter sends and whether it has been handed. -/
theorem sentFramesAreHandedAndReported : Obligations.SentFramesAreHandedAndReported := by
  refine fun s c bytes => ⟨fun hsend => next_congr ?_, fun handed hsend => ⟨fun hclosed => ?_, fun hlong => ?_⟩⟩
  · simp only [frameHanded, hsend]
    cases c with
    | beacon =>
      simp only [effectivePeriod_eq]
      rfl
    | ask => rfl
    | object => rfl
  · have hawaits : s.awaitsReport = true := by simp only [State.awaitsReport, hsend]
    have hbyte (b : Byte) : moduleByte b s = if b = 1#8 ∧ s.awaitsReport = true then s.setTransmitter .idle else s := by
      unfold moduleByte
      rw [receiveFrame_of_not_complete (by simp [hclosed])]
      simp only [hclosed]
    refine ⟨next_congr ?_, next_congr ?_, fun b hb => next_congr ?_⟩
    · exact (hbyte 1#8).trans (if_pos ⟨rfl, hawaits⟩)
    · exact (hbyte 1#8).trans (if_pos ⟨rfl, hawaits⟩)
    · exact (hbyte b).trans (if_neg fun h => hb h.1)
  · have hdue : s.reportOverdue = true := by
      simp only [State.reportOverdue, hsend]
      exact decide_eq_true hlong
    exact if_pos hdue

end Sys2Proof.Proofs
end

section
/-!
PROOFS. The Air Port's receiving side: what a frame is built of and reads back as, how it is collected, and which check it fails
(O20, O22, O23).
-/

namespace Sys2Proof.Machine

variable {s t : State}

/-! ### Codes and bytes read back (R22) -/

theorem toNat_byteOf {n : Nat} (h : n < 256) : (byteOf n).toNat = n := by
  rw [byteOf, BitVec.toNat_ofNat]
  exact Nat.mod_eq_of_lt h

/-- Two bytes hold every number below 65,536. -/
theorem ofTwoBytes_byteOf {n : Nat} (h : n < 65536) : ofTwoBytes (byteOf (n / 256)) (byteOf (n % 256)) = n := by
  rw [ofTwoBytes, toNat_byteOf (Nat.div_lt_of_lt_mul h), toNat_byteOf (Nat.mod_lt _ (by decide))]
  exact Nat.div_add_mod' n 256

theorem Direction.code_le (d : Direction) : d.code ≤ 1 := by cases d <;> decide
theorem Direction.ofCode_code (d : Direction) : Direction.ofCode d.code = d := by cases d <;> rfl
theorem Quality.code_le (q : Quality) : q.code ≤ 3 := by cases q <;> decide
theorem Quality.ofCode_code (q : Quality) : Quality.ofCode q.code = q := by cases q <;> rfl
theorem Relation.code_le (r : Relation) : r.code ≤ 3 := by cases r <;> decide
theorem Relation.ofCode_code (r : Relation) : Relation.ofCode r.code = r := by cases r <;> rfl
theorem Relation.code_eq_zero {r : Relation} : r.code = 0 ↔ r = .none := by cases r <;> decide
theorem OrderCode.code_le (o : OrderCode) : o.code ≤ 2 := by cases o <;> decide
theorem OrderCode.ofCode_code (o : OrderCode) : OrderCode.ofCode o.code = some o := by cases o <;> rfl

theorem Mode.code_le {m : Mode} (h : m ≠ .start) : m.code ≤ 5 := by
  revert h
  cases m <;> decide

theorem Mode.ofCode_code {m : Mode} (h : m ≠ .start) : Mode.ofCode m.code = some m := by
  revert h
  cases m <;> decide

theorem Mode.ofCode_eq_none {n : Nat} : Mode.ofCode n = none ↔ 6 ≤ n := by
  unfold Mode.ofCode
  repeat' split
  all_goals simp only [reduceCtorEq, true_iff, false_iff]; omega

theorem OrderCode.ofCode_eq_none {n : Nat} : OrderCode.ofCode n = Option.none ↔ 3 ≤ n := by
  unfold OrderCode.ofCode
  repeat' split
  all_goals simp only [reduceCtorEq, true_iff, false_iff]; omega

/-! ### A frame as built passes its checks (R24, R27) -/

theorem crcPasses_withCrc (body : List Byte) : crcPasses (withCrc body) = true := by
  simp [crcPasses, withCrc, twoBytes]

/-- The two first bytes of a frame name its kind and its sender. -/
structure HeaderOf (f : List Byte) (kind sender : Nat) (d : Direction) : Prop where
  kind : frameKind f = kind
  sender : frameSender f = sender
  direction : frameDirection f = d

theorem headerOf {f : List Byte} {kind sender low quality : Nat} {d : Direction}
    (h0 : frameByte f 0 = kind * 16 + low) (hlow : low < 16) (h1 : frameByte f 1 = sender * 8 + d.code * 4 + quality)
    (hquality : quality < 4) : HeaderOf f kind sender d := by
  have hd := d.code_le
  refine ⟨?_, ?_, ?_⟩
  · rw [frameKind, h0]
    omega
  · rw [frameSender, h1]
    omega
  · have hcode : frameByte f 1 / 4 % 2 = d.code := by
      rw [h1]
      omega
    rw [frameDirection, hcode, Direction.ofCode_code]

/-- A frame of a known kind, of its kind's length, with its CRC, is accepted if it reads. -/
theorem checkFrame_of_read {f : List Byte} {frame : Frame} {ownId kind sender : Nat} {d : Direction}
    (hheader : HeaderOf f kind sender d) (hown : sender ≠ ownId) (hkind : kindKnown f = true) (hlength : lengthPasses f = true)
    (hcrc : crcPasses f = true) (hread : readFrame f = some frame) : checkFrame ownId false f = .accepted frame := by
  simp [checkFrame, hlength, hcrc, hkind, hread, hheader.sender, hown]

theorem readBeacon_beaconBytes {b : Beacon} (h : b.Sound) :
    HeaderOf (beaconBytes b) 1 b.sender b.direction ∧ readBeacon (beaconBytes b) = some b := by
  obtain ⟨⟨-, hsender⟩, hlead, hfront, hmode, hspeed, hmember, hrig, hconvoy, hnarrow, hseq, hage, hhop, hlow, hperiod⟩ := h
  have hdir := b.direction.code_le
  have hqual := b.quality.code_le
  have hrel := b.relation.code_le
  have hord := b.orderCode.code_le
  have hmodecode := Mode.code_le hmode
  have hfirst := b.first.toNat_le
  have hbraking := b.braking.toNat_le
  have hb0 : frameByte (beaconBytes b) 0 = 1 * 16 + (b.first.toNat * 8 + b.braking.toNat * 4) :=
    (toNat_byteOf (by omega)).trans (by omega)
  have hb1 : frameByte (beaconBytes b) 1 = b.sender * 8 + b.direction.code * 4 + b.quality.code := toNat_byteOf (by omega)
  have hb3 : frameByte (beaconBytes b) 3 = b.lead := toNat_byteOf (by omega)
  have hw4 : frameWord (beaconBytes b) 4 = b.front := ofTwoBytes_byteOf (by omega)
  have hw6 : frameWord (beaconBytes b) 6 = b.mode.code * 8192 + b.speed := ofTwoBytes_byteOf (by omega)
  have hw8 : frameWord (beaconBytes b) 8 = b.memberIndex * 4096 + b.rigLength := ofTwoBytes_byteOf (by omega)
  have hb10 : frameByte (beaconBytes b) 10 = b.convoyId * 8 + b.narrow := toNat_byteOf (by omega)
  have hb11 : frameByte (beaconBytes b) 11 = b.relation.code * 64 + b.orderCode.code * 16 + b.orderSeq :=
    toNat_byteOf (by omega)
  have hb12 : frameByte (beaconBytes b) 12 = b.waitAge := toNat_byteOf (by omega)
  have hb13 : frameByte (beaconBytes b) 13 = b.orderHop * 16 := toNat_byteOf (by omega)
  have hb14 : frameByte (beaconBytes b) 14 = b.period := toNat_byteOf (by omega)
  have hheader : HeaderOf (beaconBytes b) 1 b.sender b.direction := headerOf hb0 (by omega) hb1 (by omega)
  refine ⟨hheader, ?_⟩
  have hmoderead : Mode.ofCode (frameWord (beaconBytes b) 6 / 8192) = some b.mode := by
    rw [hw6, show (b.mode.code * 8192 + b.speed) / 8192 = b.mode.code by omega, Mode.ofCode_code hmode]
  have horderread : OrderCode.ofCode (frameByte (beaconBytes b) 11 / 16 % 4) = some b.orderCode := by
    rw [hb11, show (b.relation.code * 64 + b.orderCode.code * 16 + b.orderSeq) / 16 % 4 = b.orderCode.code by omega,
      OrderCode.ofCode_code]
  have hfirstread : decide (frameByte (beaconBytes b) 0 / 8 % 2 = 1) = b.first := by
    rw [hb0]
    cases b.first <;> cases b.braking <;> rfl
  have hbrakingread : decide (frameByte (beaconBytes b) 0 / 4 % 2 = 1) = b.braking := by
    rw [hb0]
    cases b.first <;> cases b.braking <;> rfl
  have hqualread : Quality.ofCode (frameByte (beaconBytes b) 1 % 4) = b.quality := by
    rw [hb1, show (b.sender * 8 + b.direction.code * 4 + b.quality.code) % 4 = b.quality.code by omega, Quality.ofCode_code]
  have hrelread : Relation.ofCode (frameByte (beaconBytes b) 11 / 64) = b.relation := by
    rw [hb11, show (b.relation.code * 64 + b.orderCode.code * 16 + b.orderSeq) / 64 = b.relation.code by omega,
      Relation.ofCode_code]
  have hspeedread : frameWord (beaconBytes b) 6 % 1024 = b.speed := by rw [hw6]; omega
  have hmemberread : frameWord (beaconBytes b) 8 / 4096 = b.memberIndex := by rw [hw8]; omega
  have hrigread : frameWord (beaconBytes b) 8 % 4096 = b.rigLength := by rw [hw8]; omega
  have hconvoyread : frameByte (beaconBytes b) 10 / 8 = b.convoyId := by rw [hb10]; omega
  have hnarrowread : frameByte (beaconBytes b) 10 % 8 = b.narrow := by rw [hb10]; omega
  have hseqread : frameByte (beaconBytes b) 11 % 16 = b.orderSeq := by rw [hb11]; omega
  have hhopread : frameByte (beaconBytes b) 13 / 16 = b.orderHop := by rw [hb13]; omega
  have hperiodread : clampNat 10 200 (frameByte (beaconBytes b) 14) = b.period := by rw [hb14, clampNat]; omega
  have hsequence : (beaconBytes b).getD 2 0 = b.sequence := rfl
  simp only [readBeacon, hmoderead, horderread, hfirstread, hbrakingread, hheader.sender, hheader.direction, hqualread,
    hsequence, hb3, hw4, hspeedread, hmemberread, hrigread, hconvoyread, hnarrowread, hrelread, hseqread, hb12, hhopread,
    hperiodread]

theorem readAsk_askBytes {a : AskFrame} (h : a.Sound) :
    HeaderOf (askBytes a) 2 a.sender a.direction ∧ readAsk (askBytes a) = a := by
  obtain ⟨⟨-, hsender⟩, hnarrow, hage⟩ := h
  have hdir := a.direction.code_le
  have hb1 : frameByte (askBytes a) 1 = a.sender * 8 + a.direction.code * 4 + 0 := toNat_byteOf (by omega)
  have hb2 : frameByte (askBytes a) 2 = a.narrow := toNat_byteOf (by omega)
  have hb3 : frameByte (askBytes a) 3 = a.waitAge := toNat_byteOf (by omega)
  have hheader : HeaderOf (askBytes a) 2 a.sender a.direction := headerOf (low := 0) rfl (by omega) hb1 (by omega)
  refine ⟨hheader, ?_⟩
  rw [readAsk, hheader.sender, hheader.direction, hb2, hb3, Nat.mod_eq_of_lt (by omega)]

theorem readObject_objectBytes {o : ObjectFrame} (h : o.Sound) :
    HeaderOf (objectBytes o) 3 o.sender o.direction ∧ readObject (objectBytes o) = some o := by
  obtain ⟨⟨-, hsender⟩, htarget, hnarrow, hrelation, hage⟩ := h
  have hdir := o.direction.code_le
  have hrel := o.relation.code_le
  have hsome := mt Relation.code_eq_zero.1 hrelation
  have hb1 : frameByte (objectBytes o) 1 = o.sender * 8 + o.direction.code * 4 + 0 := toNat_byteOf (by omega)
  have hb2 : frameByte (objectBytes o) 2 = o.target * 8 + o.narrow := toNat_byteOf (by omega)
  have hb3 : frameByte (objectBytes o) 3 = o.relation.code * 64 := toNat_byteOf (by omega)
  have hb4 : frameByte (objectBytes o) 4 = o.waitAge := toNat_byteOf (by omega)
  have hheader : HeaderOf (objectBytes o) 3 o.sender o.direction := headerOf (low := 0) rfl (by omega) hb1 (by omega)
  refine ⟨hheader, ?_⟩
  have hcode : o.relation.code * 64 / 64 = o.relation.code := by omega
  have htargetread : (o.target * 8 + o.narrow) / 8 = o.target := by omega
  have hnarrowread : (o.target * 8 + o.narrow) % 8 = o.narrow := by omega
  rw [readObject, hb3, hcode, if_neg hsome, hheader.sender, hheader.direction, hb2, hb4, htargetread, hnarrowread,
    Relation.ofCode_code]

/-! ### The checks of a completed frame (R27) -/

theorem receiveFrame_of_complete {f : CompleteFrame} (h : s.air.reception = .complete f) :
    receiveFrame s = if s.validConfig = true then judgeFrame f s.frameClosed else s.frameClosed := by
  rcases receiveFrame_cases s with ⟨g, hg, hvalid, heq⟩ | ⟨g, hg, hvalid, heq⟩ | ⟨hno, -⟩
  · obtain rfl := Reception.complete.inj (h.symm.trans hg)
    rw [heq, if_pos hvalid]
  · rw [heq, if_neg (by simp [hvalid])]
  · exact absurd h (hno f)

theorem frameComplete_of_complete {f : CompleteFrame} (h : s.air.reception = .complete f) : s.frameComplete = true := by
  simp only [State.frameComplete, h]

/-- RECEIVED_FRAME with a completed frame waiting (R27, R29). -/
theorem exec_receivedFrame {f : CompleteFrame} (h : s.air.reception = .complete f) :
    exec .receivedFrame s =
      .next (settleLamps (if s.validConfig = true then judgeFrame f s.frameClosed else s.frameClosed)) :=
  (if_pos (frameComplete_of_complete h)).trans (next_congr (receiveFrame_of_complete h))

theorem frameClosed_ownId (s : State) : s.frameClosed.ownId = s.ownId := by
  rw [frameClosed_frame]
  rfl

theorem frameClosed_counters (s : State) : s.frameClosed.counters = s.counters := by
  rw [frameClosed_frame]
  rfl

theorem kindKnown_iff {f : List Byte} : kindKnown f = true ↔ 1 ≤ frameKind f ∧ frameKind f ≤ 3 := by
  simp only [kindKnown, Bool.or_eq_true, decide_eq_true_eq]
  omega

theorem lengthPasses_eq_false_iff {f : List Byte} :
    lengthPasses f = false ↔ f.length = 0 ∨ (frameKind f = 1 ∧ f.length ≠ 17) ∨ (frameKind f = 2 ∧ f.length ≠ 6) ∨
      (frameKind f = 3 ∧ f.length ≠ 7) ∨ f.length < 3 := by
  unfold lengthPasses
  repeat' split
  all_goals simp only [decide_eq_false_iff_not, true_iff]; omega

theorem crcPasses_eq_false_iff {f : List Byte} :
    crcPasses f = false ↔ f.drop (f.length - 2) ≠ twoBytes (crc (f.take (f.length - 2))).toNat :=
  decide_eq_false_iff_not

/-- A frame of a known kind does not read where a reserved value stands (R23). -/
theorem readFrame_eq_none_iff {f : List Byte} (hkind : 1 ≤ frameKind f ∧ frameKind f ≤ 3) :
    readFrame f = none ↔ frameByte f 1 / 8 = 0 ∨ frameByte f 1 / 8 = 31 ∨
      (frameKind f = 1 ∧ (6 ≤ frameByte f 6 / 32 ∨ frameByte f 11 / 16 % 4 = 3)) ∨
      (frameKind f = 3 ∧ frameByte f 3 / 64 = 0) := by
  have hmode : frameWord f 6 / 8192 = frameByte f 6 / 32 := by
    have hlow := (f.getD (6 + 1) 0).isLt
    unfold frameWord frameByte ofTwoBytes
    omega
  have hbeacon : readBeacon f = none ↔ 6 ≤ frameByte f 6 / 32 ∨ frameByte f 11 / 16 % 4 = 3 := by
    have horder : frameByte f 11 / 16 % 4 = 3 ↔ 3 ≤ frameByte f 11 / 16 % 4 := by omega
    rw [horder, ← hmode, ← Mode.ofCode_eq_none, ← OrderCode.ofCode_eq_none]
    unfold readBeacon
    cases Mode.ofCode (frameWord f 6 / 8192) <;> cases OrderCode.ofCode (frameByte f 11 / 16 % 4) <;> simp
  have hobject : readObject f = none ↔ frameByte f 3 / 64 = 0 := by
    unfold readObject
    split <;> simp [*]
  unfold readFrame frameSender
  split
  · next h => simp only [true_iff]; omega
  · split
    · next h1 => rw [Option.map_eq_none_iff, hbeacon]; omega
    · split
      · next h2 => simp only [reduceCtorEq, false_iff]; omega
      · rw [Option.map_eq_none_iff, hobject]
        omega

/-! ### Arrivals leave the receiving side alone -/

theorem noteModeChange_reception (before : Mode) : (noteModeChange before s).air.reception = s.air.reception := by
  unfold noteModeChange
  split <;> rfl

theorem pushHold_reception (cause : HoldCause) (lost : Option Nat) :
    (pushHold cause lost s).air.reception = s.air.reception := by
  rcases pushHold_cases s cause lost with ⟨-, h⟩ | ⟨-, -, h⟩ | ⟨-, -, -, h⟩ | ⟨-, -, -, h⟩ <;> rw [h]
  all_goals exact noteModeChange_reception _

theorem releaseHold_reception (cause : HoldCause) : (releaseHold cause s).air.reception = s.air.reception := by
  rcases releaseHold_cases s cause with ⟨-, h⟩ | ⟨hopen, hheld, -⟩
  · rw [h]
  · rw [releaseHold_of_unreleased hopen hheld, parkReturn_frame, releaseNotice_frame]
    rfl

theorem enterWaiting_reception (i : Nat) : (enterWaiting i s).air.reception = s.air.reception := by
  cases hroom : s.pushOverruns .narrowWait
  · rw [enterWaiting_of_room hroom, beaconNowIf_frame]
    exact pushHold_reception _ _
  · rw [enterWaiting, if_pos hroom]
    exact pushHold_reception _ _

theorem actOnOrder_reception (code : OrderCode) : (actOnOrder code s).air.reception = s.air.reception := by
  cases code with
  | none => rfl
  | stopAll => exact pushHold_reception _ _
  | resumeAll => exact (releaseHold_reception _).trans (releaseHold_reception _)

theorem adoptionTest_reception (p : PeerRecord) : (adoptionTest p s).air.reception = s.air.reception := by
  unfold adoptionTest
  repeat' split
  case h_2.isFalse.isFalse.isTrue => exact actOnOrder_reception _
  all_goals rfl

theorem linkHeard_reception (p : PeerRecord) : (linkHeard p s).air.reception = s.air.reception := by
  unfold linkHeard
  split
  · exact releaseHold_reception _
  · rfl

theorem doubleHolderTest_reception (p : PeerRecord) : (doubleHolderTest p s).air.reception = s.air.reception := by
  unfold doubleHolderTest noteConflict
  dsimp only
  repeat' split
  case h_2.isFalse.isTrue => exact enterWaiting_reception _
  all_goals rfl

theorem writeNotice_reception (p : PeerRecord) : (writeNotice p s).air.reception = s.air.reception := by
  rcases writeNotice_cases s p with h | h | h | h | h | h <;> rw [h] <;>
    simp only [adoptionTest_reception, linkHeard_reception, doubleHolderTest_reception] <;> rfl

theorem beaconArrival_reception (b : Beacon) (stamp : Time) : (beaconArrival b stamp s).air.reception = s.air.reception := by
  have hwrite (p : PeerRecord) (rest : List PeerRecord) : (writeRecord p rest s).air.reception = s.air.reception :=
    writeNotice_reception p
  rcases beaconArrival_cases s b stamp with h | h | ⟨-, h | h⟩ <;> rw [h]
  · exact hwrite _ _
  · rfl
  · exact hwrite _ _
  · unfold weighNewcomer
    repeat' split
    · rfl
    · rfl
    · exact hwrite _ _

theorem takeAnswer_reception (e : AnswerEntry) : (takeAnswer e s).air.reception = s.air.reception := by
  rw [takeAnswer_frame]
  rfl

theorem passOn_reception (f : Frame) (stamp : Time) : (passOn f stamp s).air.reception = s.air.reception := by
  cases f with
  | beacon b => exact beaconArrival_reception b stamp
  | ask a =>
    show (askArrival a stamp s).air.reception = _
    unfold askArrival
    dsimp only
    repeat' split
    case h_2 => exact takeAnswer_reception _
    case h_3.isTrue => exact takeAnswer_reception _
    case h_3.isFalse.isFalse => exact enterWaiting_reception _
    case h_4.isTrue => exact takeAnswer_reception _
    all_goals rfl
  | object o =>
    show (objectArrival o stamp s).air.reception = _
    unfold objectArrival lateObjection
    dsimp only
    repeat' split
    case h_2 => exact enterWaiting_reception _
    case h_4.isFalse.isTrue.isFalse => exact enterWaiting_reception _
    all_goals rfl

/-- A completed frame is closed by its judgement, and no frame is then open (R25, R29). -/
theorem receiveFrame_reception {f : CompleteFrame} (h : s.air.reception = .complete f) :
    (receiveFrame s).air.reception = .closed := by
  have hclosed : s.frameClosed.air.reception = .closed := by
    unfold State.frameClosed
    repeat' split
    all_goals rfl
  rw [receiveFrame_of_complete h]
  split
  · rcases judgeFrame_cases s.frameClosed f with ⟨c, hj⟩ | hj | ⟨frame, -, hj⟩ <;> rw [hj]
    · exact hclosed
    · exact hclosed
    · exact (passOn_reception frame f.stamp).trans hclosed
  · exact hclosed

theorem startBackoff_setCounters (x : Counters) : startBackoff (s.setCounters x) = (startBackoff s).setCounters x := by
  by_cases h : ∃ c n since, s.air.transmitter = .sense c n since
  · obtain ⟨c, n, since, h⟩ := h
    rw [startBackoff_of_sense h, startBackoff_of_sense (s := s.setCounters x) h]
    by_cases hclear : s.air.busy = false ∧ s.air.reception.isOpen = false
    · rw [if_pos hclear]
      exact if_pos hclear
    · rw [if_neg hclear]
      exact if_neg hclear
  · have hnot {u : State} (hu : ¬∃ c n since, u.air.transmitter = .sense c n since) : startBackoff u = u := by
      unfold startBackoff
      split
      · next hs => exact absurd ⟨_, _, _, hs⟩ hu
      · rfl
    rw [hnot h, hnot (u := s.setCounters x) h]

/-! ### Lamps do not reach the Air Port -/

theorem settleLamps_setLamps {x : Lamps} (h : x.timebase = s.lamps.timebase) : settleLamps (s.setLamps x) = settleLamps s := by
  have hnow : (s.setLamps x).lampsNow = s.lampsNow := by
    unfold State.lampsNow
    rw [State.setLamps_lamps, h]
    rfl
  unfold settleLamps
  rw [hnow]
  rfl

theorem setTransmitter_setLamps (x : Lamps) (u : Transmitter) :
    (s.setLamps x).setTransmitter u = (s.setTransmitter u).setLamps x := rfl

theorem askDroppedReport_setLamps (x : Lamps) : askDroppedReport (s.setLamps x) = (askDroppedReport s).setLamps x := by
  by_cases hnone : s.mode = .lockout ∨ s.findNarrow NarrowRecord.askGranted = none
  · rw [(askReports_of_none hnone).2, (askReports_of_none (s := s.setLamps x) hnone).2]
  · obtain ⟨hmode, hsome⟩ := not_or.1 hnone
    obtain ⟨i, hi⟩ := Option.ne_none_iff_exists'.1 hsome
    rw [(askReports_of_some hmode hi).2, (askReports_of_some (s := s.setLamps x) hmode hi).2]
    rfl

theorem dropFrame_setLamps (c : FrameClass) (x : Lamps) : dropFrame c (s.setLamps x) = (dropFrame c s).setLamps x := by
  cases c with
  | beacon => rfl
  | ask =>
    exact askDroppedReport_setLamps (s := (s.setTransmitter .idle).setCounters
      { s.counters with askDropped := bump s.counters.askDropped }) x
  | object => rfl

theorem loseAttempt_setLamps (x : Lamps) : loseAttempt (s.setLamps x) = (loseAttempt s).setLamps x := by
  by_cases h : ∃ c n slots, s.air.transmitter = .backoff c n slots
  · obtain ⟨c, n, slots, h⟩ := h
    rw [loseAttempt_eq h, loseAttempt_eq (s := s.setLamps x) h]
    split
    · rfl
    · exact dropFrame_setLamps c x
  · have hno : ∀ c n slots, s.air.transmitter ≠ .backoff c n slots := fun c n slots hb => h ⟨c, n, slots, hb⟩
    rw [loseAttempt_of_ne_backoff hno, loseAttempt_of_ne_backoff (s := s.setLamps x) hno]

theorem loseAttempt_lamps : (loseAttempt s).lamps = s.lamps := by
  have hself : s.setLamps s.lamps = s := rfl
  have hkept := congrArg State.lamps (loseAttempt_setLamps (s := s) s.lamps)
  rwa [hself] at hkept

/-! ### A SYNC and a byte (R25) -/

/-- A SYNC or a byte that finds a completed frame has it judged first (log entry 15). -/
theorem receiveFrame_receiveFrame {f : CompleteFrame} (h : s.air.reception = .complete f) :
    receiveFrame (settleLamps (receiveFrame s)) = settleLamps (receiveFrame s) :=
  receiveFrame_of_not_complete (by simp [settleLamps, receiveFrame_reception h])

theorem syncPulse_of_opened {f : OpenFrame} (h : s.air.reception = .opened f) :
    syncPulse s = loseAttempt
      ((countAbandoned s).setReception (.opened { stamp := s.time, count := none, taken := 0, buffer := [] })) := by
  have hopen : s.air.reception.isOpen = true := by rw [h]; rfl
  have htime : (countAbandoned s).time = s.time := by
    unfold countAbandoned
    split <;> rfl
  unfold syncPulse
  rw [receiveFrame_of_not_complete (by simp [h])]
  simp only [hopen, if_true, htime]

theorem syncPulse_of_complete {f : CompleteFrame} (h : s.air.reception = .complete f) :
    syncPulse s = loseAttempt
      ((receiveFrame s).setReception (.opened { stamp := (receiveFrame s).time, count := none, taken := 0, buffer := [] })) := by
  unfold syncPulse
  simp [receiveFrame_reception h, Reception.isOpen]

theorem moduleByte_of_opened {f : OpenFrame} (h : s.air.reception = .opened f) (b : Byte) :
    moduleByte b s = s.setReception (takeFrameByte f b) := by
  unfold moduleByte
  rw [receiveFrame_of_not_complete (by simp [h])]
  simp only [h]

theorem moduleByte_of_closed (h : (receiveFrame s).air.reception = .closed) (b : Byte) :
    moduleByte b s =
      if b = 1#8 ∧ (receiveFrame s).awaitsReport = true then (receiveFrame s).setTransmitter .idle else receiveFrame s := by
  unfold moduleByte
  simp only [h]

theorem countAbandoned_eq (s : State) :
    countAbandoned s = s.setCounters
      (if s.loading = false ∧ s.holds.lockout = .config then s.counters
      else { s.counters with malformed := bump s.counters.malformed }) := by
  have hiff : (s.mode = .lockout ∧ s.holds.lockout = .config) ↔ (s.loading = false ∧ s.holds.lockout = .config) := by
    rw [mode_eq_lockout_iff]
    constructor
    · exact fun h => ⟨h.1.1, h.2⟩
    · exact fun h => ⟨⟨h.1, by simp [h.2]⟩, h.2⟩
  unfold countAbandoned
  simp only [hiff]
  split <;> rfl

theorem takeFrameByte_eq (f : OpenFrame) (b : Byte) :
    takeFrameByte f b =
      match f.count with
      | none =>
        if b = 0 then .complete { stamp := f.stamp, buffer := [], malformed := false }
        else .opened { f with count := some b.toNat }
      | some n =>
        let buffer := if f.taken < 32 then f.buffer ++ [b] else f.buffer
        if f.taken + 1 < n then .opened { f with taken := f.taken + 1, buffer := buffer }
        else .complete { stamp := f.stamp, buffer := buffer, malformed := decide (32 < n) } := by
  have hzero : b.toNat = 0 ↔ b = 0 := by rw [← BitVec.toNat_inj]; rfl
  unfold takeFrameByte
  cases f.count with
  | none => exact if_congr hzero rfl rfl
  | some n => rfl

end Sys2Proof.Machine

namespace Sys2Proof.Proofs
open Sys2Proof.Machine

/-- Settles O20: by the kind of the frame. -/
theorem framesReadBackAsBuilt : Obligations.FramesReadBackAsBuilt := by
  intro f ownId hsound hown
  have hsender {f : List Byte} {kind sender : Nat} {d : Direction} (h : HeaderOf f kind sender d)
      (hs : 1 ≤ sender ∧ sender ≤ 30) : ¬(frameSender f = 0 ∨ frameSender f = 31) := by
    rw [h.sender]
    omega
  cases f with
  | beacon b =>
    obtain ⟨hheader, hread⟩ := readBeacon_beaconBytes hsound
    refine checkFrame_of_read hheader hown (by simp [kindKnown, Frame.bytes, hheader.kind]) ?_ (crcPasses_withCrc _) ?_
    · simp only [lengthPasses, Frame.bytes, hheader.kind]
      rfl
    · simp only [readFrame, Frame.bytes, if_neg (hsender hheader hsound.1), hheader.kind, hread]
      rfl
  | ask a =>
    obtain ⟨hheader, hread⟩ := readAsk_askBytes hsound
    refine checkFrame_of_read hheader hown (by simp [kindKnown, Frame.bytes, hheader.kind]) ?_ (crcPasses_withCrc _) ?_
    · simp only [lengthPasses, Frame.bytes, hheader.kind]
      rfl
    · simp only [readFrame, Frame.bytes, if_neg (hsender hheader hsound.1), hheader.kind, hread]
      rfl
  | object o =>
    obtain ⟨hheader, hread⟩ := readObject_objectBytes hsound
    refine checkFrame_of_read hheader hown (by simp [kindKnown, Frame.bytes, hheader.kind]) ?_ (crcPasses_withCrc _) ?_
    · simp only [lengthPasses, Frame.bytes, hheader.kind]
      rfl
    · simp only [readFrame, Frame.bytes, if_neg (hsender hheader hsound.1), hheader.kind, hread]
      rfl

/-- Settles O22: by the state of the receiving side. -/
theorem framesAreCollected : Obligations.FramesAreCollected := by
  intro s inBackoff opened counted
  have hlose {u : State} (hu : u.air.transmitter = s.air.transmitter) (h : ¬inBackoff) : loseAttempt u = u :=
    loseAttempt_of_ne_backoff fun c n slots hb => h ⟨c, n, slots, hu.symm.trans hb⟩
  refine ⟨fun hclosed hno => next_congr ?_, fun f hf => ⟨fun hno => next_congr ?_, fun b => next_congr ?_, fun hlong => ?_⟩,
    fun f t hf ht => ?_⟩
  · rw [syncPulse_of_closed hclosed]
    exact hlose rfl hno
  · rw [syncPulse_of_opened hf, countAbandoned_eq]
    exact hlose rfl hno
  · rw [moduleByte_of_opened hf, takeFrameByte_eq]
    rfl
  · have hdue : s.frameOverdue = true := by
      simp only [State.frameOverdue, hf]
      exact decide_eq_true hlong
    refine (if_pos hdue).trans (next_congr ?_)
    have hcount : countAbandoned (s.setReception .closed) = (s.setReception .closed).setCounters counted :=
      countAbandoned_eq _
    show startBackoff (countAbandoned (s.setReception .closed)) = _
    rw [hcount, startBackoff_setCounters, startBackoff_closed]
    rfl
  · obtain rfl : settleLamps (receiveFrame s) = t :=
      Host.Outcome.next.inj ((if_pos (frameComplete_of_complete hf)).symm.trans ht)
    have hclosed := receiveFrame_reception hf
    refine ⟨congrArg Host.Outcome.next ?_, fun b => congrArg Host.Outcome.next ?_⟩
    · show settleLamps (syncPulse s) = settleLamps (syncPulse (settleLamps (receiveFrame s)))
      rw [syncPulse_of_complete hf, syncPulse_of_closed (by exact hclosed)]
      let u := (receiveFrame s).setReception
        (.opened { stamp := (receiveFrame s).time, count := none, taken := 0, buffer := [] })
      show _ = settleLamps (loseAttempt (u.setLamps (receiveFrame s).lampsNow))
      rw [loseAttempt_setLamps, settleLamps_setLamps (by rw [loseAttempt_lamps]; rfl)]
    · show settleLamps (moduleByte b s) = settleLamps (moduleByte b (settleLamps (receiveFrame s)))
      rw [moduleByte_of_closed hclosed,
        moduleByte_of_closed (by rw [receiveFrame_receiveFrame hf]; exact hclosed), receiveFrame_receiveFrame hf]
      show _ = settleLamps (if b = 1#8 ∧ (receiveFrame s).awaitsReport = true then _ else _)
      split
      · exact (settleLamps_setLamps (s := (receiveFrame s).setTransmitter .idle) rfl).symm
      · exact (settleLamps_setLamps rfl).symm

/-- Settles O23: the checks in order, each by what it reads. -/
theorem refusedFramesAreCounted : Obligations.RefusedFramesAreCounted := by
  intro s f hf
  refine ⟨fun hinvalid => ?_, fun hload hlock => ?_⟩
  · rw [exec_receivedFrame hf, if_neg]
    rw [validConfig_eq_true_iff]
    rcases hinvalid with h | h <;> simp [h]
  intro byte kind n short crcBad reserved
  have hexec := exec_receivedFrame hf
  rw [if_pos ((validConfig_eq_true_iff s).2 ⟨hload, hlock⟩)] at hexec
  have hcheck {fate : FrameFate} (h : checkFrame s.ownId f.malformed f.buffer = fate) :
      checkFrame s.frameClosed.ownId f.malformed f.buffer = fate := by rw [frameClosed_ownId, h]
  have hshort : (f.malformed = true ∨ lengthPasses f.buffer = false) ↔ short := by
    rw [lengthPasses_eq_false_iff]
    rfl
  have hcrc : crcPasses f.buffer = false ↔ crcBad := crcPasses_eq_false_iff
  have hkind : kindKnown f.buffer = true ↔ 1 ≤ kind ∧ kind ≤ 3 := kindKnown_iff
  have hreserved (h1 : 1 ≤ kind) (h3 : kind ≤ 3) : readFrame f.buffer = none ↔ reserved := readFrame_eq_none_iff ⟨h1, h3⟩
  refine ⟨fun h => ?_, fun h hc => ?_, fun h hc hk => ?_, fun h hc h1 h3 hr => ?_, fun h hc h1 h3 hr hid => ?_⟩ <;>
    refine hexec.trans (next_congr ?_)
  · have hfate : checkFrame s.ownId f.malformed f.buffer = .malformed := if_pos (hshort.2 h)
    simp only [judgeFrame, hcheck hfate, countMalformed, frameClosed_counters]
    rfl
  · have hfate : checkFrame s.ownId f.malformed f.buffer = .crcError := by
      rw [checkFrame, if_neg (mt hshort.1 h), if_pos (hcrc.2 hc)]
    simp only [judgeFrame, hcheck hfate, frameClosed_counters]
    rfl
  · have hunknown : kindKnown f.buffer = false := by
      rw [← Bool.not_eq_true, hkind]
      omega
    have hfate : checkFrame s.ownId f.malformed f.buffer = .unknownKind := by
      rw [checkFrame, if_neg (mt hshort.1 h), if_neg (mt hcrc.1 hc), if_pos hunknown]
    simp only [judgeFrame, hcheck hfate, frameClosed_counters]
    rfl
  · have hfate : checkFrame s.ownId f.malformed f.buffer = .malformed := by
      rw [checkFrame, if_neg (mt hshort.1 h), if_neg (mt hcrc.1 hc), if_neg (by simp [hkind.2 ⟨h1, h3⟩]),
        (hreserved h1 h3).2 hr]
    simp only [judgeFrame, hcheck hfate, countMalformed, frameClosed_counters]
    rfl
  · have hfate : checkFrame s.ownId f.malformed f.buffer = .idClash := by
      obtain ⟨frame, hread⟩ := Option.ne_none_iff_exists'.1 (mt (hreserved h1 h3).1 hr)
      rw [checkFrame, if_neg (mt hshort.1 h), if_neg (mt hcrc.1 hc), if_neg (by simp [hkind.2 ⟨h1, h3⟩]), hread]
      exact if_pos hid
    simp only [judgeFrame, hcheck hfate, frameClosed_counters]
    rfl

end Sys2Proof.Proofs
end

section
/-!
PROOFS. What an accepted frame does: a BEACON to the Peer Table and its readers, an ASK and an OBJECT to the Narrow Unit (O29, O30,
O32, O37, O38).
-/

namespace Sys2Proof.Machine

variable {s t : State}

/-! ### An accepted frame (R29) -/

theorem exec_accepted {f : CompleteFrame} {frame : Frame} (h : s.air.reception = .complete f) (hload : s.loading = false)
    (hlock : s.holds.lockout ≠ .config) (hcheck : checkFrame s.ownId f.malformed f.buffer = .accepted frame) :
    exec .receivedFrame s = .next (settleLamps (passOn frame f.stamp s.frameClosed)) := by
  have hjudge : judgeFrame f s.frameClosed = passOn frame f.stamp s.frameClosed := by
    simp only [judgeFrame, frameClosed_ownId, hcheck]
  rw [exec_receivedFrame h, if_pos ((validConfig_eq_true_iff s).2 ⟨hload, hlock⟩), hjudge]

theorem opposite_ne_iff {d e : Direction} : d ≠ e.opposite ↔ d = e := by cases d <;> cases e <;> decide

/-! ### The Peer Table (sections 3.3 to 3.5) -/

theorem findId_eq_some {l : List PeerRecord} {r : PeerRecord} {id : Nat} (hids : (l.map (fun r => r.id)).Nodup) (hr : r ∈ l)
    (hid : r.id = id) : findId id l = some r := by
  obtain ⟨x, hx⟩ := Option.isSome_iff_exists.1 ((List.find?_isSome (p := fun r : PeerRecord => decide (r.id = id))).2
    ⟨r, hr, decide_eq_true hid⟩)
  have hxid : x.id = id := of_decide_eq_true (List.find?_some (p := fun r : PeerRecord => decide (r.id = id)) hx)
  have hsame : x = r := List.inj_on_of_nodup_map hids (List.mem_of_find?_eq_some hx) hr (hxid.trans hid.symm)
  exact hsame ▸ hx

theorem findId_eq_none {l : List PeerRecord} {id : Nat} (h : ∀ r ∈ l, r.id ≠ id) : findId id l = none :=
  List.find?_eq_none.2 fun r hr => by simpa using h r hr

theorem mem_removeId {l : List PeerRecord} {id : Nat} {r : PeerRecord} : r ∈ removeId id l ↔ r ∈ l ∧ r.id ≠ id := by
  simp [removeId]

theorem removeId_of_not_mem {l : List PeerRecord} {id : Nat} (h : ∀ r ∈ l, r.id ≠ id) : removeId id l = l :=
  List.filter_eq_self.2 fun r hr => decide_eq_true (h r hr)

theorem beaconNewer_iff {b : Beacon} {held : PeerRecord} : beaconNewer b held = true ↔
    b.first = true ∨ (1 ≤ (b.sequence - held.lastSequence).toNat ∧ (b.sequence - held.lastSequence).toNat ≤ 127) := by
  unfold beaconNewer
  rw [Bool.or_eq_true, Bool.and_eq_true, decide_eq_true_iff, decide_eq_true_iff]

/-- A record written among records of other ids: who the table then holds, in road order (R50, R53). -/
theorem insertRecord_removeId {p : PeerRecord} {l : List PeerRecord} {id : Nat}
    (hordered : l.Pairwise (fun x y => x.position < y.position ∨ (x.position = y.position ∧ x.id < y.id)))
    (hother : ∀ r ∈ l, r.id ≠ id → r.id ≠ p.id) :
    (∀ r, r ∈ insertRecord p (removeId id l) ↔ r = p ∨ (r ∈ l ∧ r.id ≠ id)) ∧
    (insertRecord p (removeId id l)).Pairwise
      (fun x y => x.position < y.position ∨ (x.position = y.position ∧ x.id < y.id)) := by
  refine ⟨fun r => ?_, insertRecord_ordered _ _ (hordered.sublist (removeId_sublist id l)) fun r hr => ?_⟩
  · rw [insertRecord_mem, mem_removeId]
  · obtain ⟨hr, hid⟩ := mem_removeId.1 hr
    exact hother r hr hid

theorem writeRecord_frameClosed (p : PeerRecord) (rest : List PeerRecord) (s : State) :
    writeRecord p rest s.frameClosed =
      writeNotice p { s.frameClosed with peers := { s.peers with records := insertRecord p rest } } := by
  rw [frameClosed_frame]
  rfl

/-- A frame that closes changes the Air Port alone. -/
theorem frameClosed_eq (s : State) : ∃ air, s.frameClosed = s.setAir air := ⟨_, frameClosed_frame s⟩

theorem frameClosed_peers (s : State) : s.frameClosed.peers = s.peers := by
  rw [frameClosed_frame]
  rfl

/-! ### The full table (R54 to R56) -/

theorem weaker_iff {a b : PeerRecord} : s.weaker a b = true ↔
    s.relevance b < s.relevance a ∨
      (s.relevance a = s.relevance b ∧
        (s.weighDistance b < s.weighDistance a ∨ (s.weighDistance a = s.weighDistance b ∧ b.id < a.id))) := by
  simp [State.weaker]

/-- Weakness is a strict order: what is not weaker than one record is not weaker than a weaker one. -/
theorem not_weaker_of_weaker {a b c : PeerRecord} (hab : s.weaker a b = true) (hcb : ¬s.weaker c b = true) :
    ¬s.weaker c a = true := by
  rw [weaker_iff] at *
  omega

theorem not_weaker_self (a : PeerRecord) : ¬s.weaker a a = true := by
  rw [weaker_iff]
  omega

/-- No record of a table is weaker than its victim (R55). -/
theorem not_weaker_victim {l : List PeerRecord} {v : PeerRecord} (h : s.victim l = some v) :
    ∀ r ∈ l, ¬s.weaker r v = true := by
  induction l generalizing v with
  | nil => exact List.forall_mem_nil _
  | cons x xs ih =>
    rw [State.victim] at h
    cases hxs : s.victim xs with
    | none =>
      have hempty : xs = [] := by
        cases xs with
        | nil => rfl
        | cons y ys =>
          rw [State.victim] at hxs
          split at hxs
          · contradiction
          · split at hxs <;> contradiction
      rw [hxs] at h
      obtain rfl := Option.some.inj h
      rw [hempty]
      exact List.forall_mem_cons.2 ⟨not_weaker_self x, List.forall_mem_nil _⟩
    | some w =>
      rw [hxs] at h
      dsimp only at h
      split at h
      · next hxw =>
        obtain rfl := Option.some.inj h
        exact List.forall_mem_cons.2 ⟨not_weaker_self x, fun r hr => not_weaker_of_weaker hxw (ih hxs r hr)⟩
      · next hxw =>
        obtain rfl := Option.some.inj h
        exact List.forall_mem_cons.2 ⟨hxw, ih hxs⟩

theorem victim_isSome {l : List PeerRecord} {r : PeerRecord} (h : r ∈ l) : ∃ v, s.victim l = some v := by
  cases l with
  | nil => exact absurd h List.not_mem_nil
  | cons x xs =>
    rw [State.victim]
    split
    · exact ⟨_, rfl⟩
    · split <;> exact ⟨_, rfl⟩

/-- The one record weaker than every other is the victim. -/
theorem victim_eq {l : List PeerRecord} {v : PeerRecord} (hv : v ∈ l) (hweakest : ∀ r ∈ l, r ≠ v → s.weaker v r = true) :
    s.victim l = some v := by
  obtain ⟨w, hw⟩ := victim_isSome (s := s) hv
  by_cases hwv : w = v
  · rw [hw, hwv]
  · exact absurd (hweakest w (victim_mem s l w hw) hwv) (not_weaker_victim hw v hv)

theorem victim_setAir {air : AirPort} (l : List PeerRecord) : (s.setAir air).victim l = s.victim l := by
  induction l with
  | nil => rfl
  | cons r rs ih =>
    rw [State.victim, State.victim, ih]
    rfl

/-- A record just ahead, by its own direction (R54). -/
theorem justAhead_iff {r : PeerRecord} :
    s.justAhead r = true ↔
      s.cfg.wAhead ≠ 0 ∧ s.road.quality ≠ .unknown ∧ r.direction = s.road.direction ∧
        (match s.road.direction with
         | .up => decide (s.front < r.position ∧ rearOf r.direction r.position r.rigLength ≤ (s.front : Int) + s.cfg.wAhead)
         | .down =>
           decide (r.position < s.front ∧ (s.front : Int) - s.cfg.wAhead ≤ rearOf r.direction r.position r.rigLength)) = true := by
  simp only [State.justAhead, Bool.and_eq_true, decide_eq_true_eq, and_assoc]
  refine and_congr_right fun _ => and_congr_right fun _ => and_congr_right fun hd => ?_
  rw [hd]
  cases s.road.direction <;> simp

theorem newcomerDropped_iff {new v : PeerRecord} : s.newcomerDropped new v = true ↔
    s.relevance v < s.freshClass new ∨ (s.freshClass new = s.relevance v ∧ s.weighDistance v ≤ s.weighDistance new) := by
  simp [State.newcomerDropped]

/-! ### The readers of a write notice (R59) -/

theorem adoptionTest_of_none {p : PeerRecord} (h : p.orderPart = none) (s : State) : adoptionTest p s = s := by
  simp only [adoptionTest, h]

theorem doubleHolderTest_of_none {p : PeerRecord} (h : p.narrowPart = none) (s : State) : doubleHolderTest p s = s := by
  simp only [doubleHolderTest, h]

theorem linkHeard_of_not_lost {p : PeerRecord} (h : ¬(s.spacing.lostId ≠ 0 ∧ p.id = s.spacing.lostId)) :
    linkHeard p s = s := if_neg h

theorem releaseHold_lostId (cause : HoldCause) : (releaseHold cause s).spacing.lostId = s.spacing.lostId := by
  rcases releaseHold_cases s cause with ⟨-, h⟩ | ⟨hopen, hheld, -⟩
  · rw [h]
  · rw [releaseHold_of_unreleased hopen hheld, parkReturn_releaseNotice]
    dsimp only
    split <;> rfl

theorem actOnOrder_lostId (code : OrderCode) : (actOnOrder code s).spacing.lostId = s.spacing.lostId := by
  cases code with
  | none => rfl
  | stopAll => exact congrArg SpacingUnit.lostId (pushHold_spacing s _ _)
  | resumeAll => exact (releaseHold_lostId _).trans (releaseHold_lostId _)

theorem adoptionTest_lostId (p : PeerRecord) : (adoptionTest p s).spacing.lostId = s.spacing.lostId := by
  unfold adoptionTest
  repeat' split
  case h_2.isFalse.isFalse.isTrue => exact actOnOrder_lostId _
  all_goals rfl

theorem enterWaiting_spacing' (i : Nat) : (enterWaiting i s).spacing = s.spacing := by
  rw [enterWaiting_frame]
  rfl

theorem doubleHolderTest_lostId (p : PeerRecord) : (doubleHolderTest p s).spacing.lostId = s.spacing.lostId := by
  unfold doubleHolderTest noteConflict
  dsimp only
  repeat' split
  case h_2.isFalse.isTrue => exact congrArg SpacingUnit.lostId (enterWaiting_spacing' _)
  all_goals rfl

/-- The notice of a record with neither part is the Spacing Unit's alone. -/
theorem writeNotice_of_no_parts {p : PeerRecord} (horder : p.orderPart = none) (hnarrow : p.narrowPart = none) (s : State) :
    writeNotice p s = linkHeard p (s.setFreeCount (s.freeCount + 1)) := by
  rcases writeNotice_cases s p with h | h | h | h | h | h <;>
    simpa only [adoptionTest_of_none horder, doubleHolderTest_of_none hnarrow] using h

/-- The notice of a record with an order part, not of the lost peer, is the Order Unit's alone. -/
theorem writeNotice_of_order {p : PeerRecord} (hlost : ¬(s.spacing.lostId ≠ 0 ∧ p.id = s.spacing.lostId))
    (hnarrow : p.narrowPart = none) : writeNotice p s = adoptionTest p (s.setFreeCount (s.freeCount + 1)) := by
  have hbefore : linkHeard p (s.setFreeCount (s.freeCount + 1)) = s.setFreeCount (s.freeCount + 1) :=
    linkHeard_of_not_lost hlost
  have hafter : linkHeard p (adoptionTest p (s.setFreeCount (s.freeCount + 1))) =
      adoptionTest p (s.setFreeCount (s.freeCount + 1)) :=
    linkHeard_of_not_lost (by rw [adoptionTest_lostId]; exact hlost)
  rcases writeNotice_cases s p with h | h | h | h | h | h <;>
    simpa only [doubleHolderTest_of_none hnarrow, hbefore, hafter] using h

/-- The notice of a record with a narrow part, not of the lost peer, is the Narrow Unit's alone. -/
theorem writeNotice_of_narrow {p : PeerRecord} (hlost : ¬(s.spacing.lostId ≠ 0 ∧ p.id = s.spacing.lostId))
    (horder : p.orderPart = none) : writeNotice p s = doubleHolderTest p (s.setFreeCount (s.freeCount + 1)) := by
  have hbefore : linkHeard p (s.setFreeCount (s.freeCount + 1)) = s.setFreeCount (s.freeCount + 1) :=
    linkHeard_of_not_lost hlost
  have hafter : linkHeard p (doubleHolderTest p (s.setFreeCount (s.freeCount + 1))) =
      doubleHolderTest p (s.setFreeCount (s.freeCount + 1)) :=
    linkHeard_of_not_lost (by rw [doubleHolderTest_lostId]; exact hlost)
  rcases writeNotice_cases s p with h | h | h | h | h | h <;>
    simpa only [adoptionTest_of_none horder, hbefore, hafter] using h

theorem newerOrder_iff {theirs own : Nat} : newerOrder theirs own = true ↔
    1 ≤ ((theirs : Int) - own) % 16 ∧ ((theirs : Int) - own) % 16 ≤ 7 := by
  simp only [newerOrder, Bool.and_eq_true, decide_eq_true_eq]
  omega

theorem eligible_iff {p : PeerRecord} : s.eligible p = true ↔
    p.direction = s.road.direction ∧ p.convoyId = s.spacing.convoyId ∧ p.memberIndex < s.spacing.memberIndex := by
  simp [State.eligible, and_assoc]

theorem isPastStopLine_iff {c : WorkingConfig} {e : NarrowEntry} {d : Direction} {front : Int} :
    isPastStopLine c e d front = true ↔
      match d with
      | .up => (e.lo : Int) - c.dStop < front
      | .down => front < e.hi + c.dStop := by
  cases d <;> exact decide_eq_true_iff

/-- The Order Unit's test in one equation (R165). -/
theorem adoptionTest_of_part {p : PeerRecord} {part : OrderPart} (horder : p.orderPart = some part) (s : State) :
    adoptionTest p s =
      if p.direction = s.road.direction ∧ p.convoyId = s.spacing.convoyId ∧ p.memberIndex < s.spacing.memberIndex ∧
        s.mode ≠ .lockout then
        if s.order.unsynchronised = true then s.setOrder (s.order.taken part p.convoyId)
        else if 1 ≤ ((part.seq : Int) - s.order.seq) % 16 ∧ ((part.seq : Int) - s.order.seq) % 16 ≤ 7 then
          actOnOrder part.code (s.setOrder (s.order.taken part p.convoyId))
        else s
      else s := by
  have hrefused : (s.eligible p = false ∨ s.mode = .lockout) ↔
      ¬(p.direction = s.road.direction ∧ p.convoyId = s.spacing.convoyId ∧ p.memberIndex < s.spacing.memberIndex ∧
        s.mode ≠ .lockout) := by
    rw [← Bool.not_eq_true, eligible_iff]
    tauto
  unfold adoptionTest
  simp only [horder, hrefused, newerOrder_iff, ite_not]

/-- The double-holder test in one equation (R147). -/
theorem doubleHolderTest_of_part {p : PeerRecord} {part : NarrowPart} {e : NarrowEntry} (hnarrow : p.narrowPart = some part)
    (he : s.cfg.enabledNarrow part.index = some e) :
    doubleHolderTest p s =
      if p.direction ≠ s.road.direction ∧ part.relation = .holding ∧ (s.narrowRecord part.index).relation = .holding ∧
        s.mode ≠ .lockout then
        if (s.narrowRecord part.index).inherited = false ∧
          ((s.narrowRecord part.index).waitAge < part.waitAge ∨
            (part.waitAge = (s.narrowRecord part.index).waitAge ∧ p.id < s.ownId)) ∧ ¬s.pastStopLine e = true then
          enterWaiting part.index s
        else if s.pastStopLine e = true ∧ isPastStopLine s.cfg e p.direction p.position = true then noteConflict part.index s
        else s
      else s := by
  have hrefused : (p.direction ≠ s.road.direction.opposite ∨ part.relation ≠ .holding ∨
      (s.narrowRecord part.index).relation ≠ .holding ∨ s.mode = .lockout) ↔
      ¬(p.direction ≠ s.road.direction ∧ part.relation = .holding ∧ (s.narrowRecord part.index).relation = .holding ∧
        s.mode ≠ .lockout) := by
    rw [opposite_ne_iff]
    tauto
  unfold doubleHolderTest
  simp only [hnarrow, he, hrefused, ite_not, Bool.and_eq_true, Bool.not_eq_true', higherPriority_iff, and_assoc,
    ← Bool.not_eq_true]

/-- A conflict is counted once in each HOLDING (R147). -/
theorem noteConflict_eq (i : Nat) (s : State) :
    noteConflict i s =
      if (s.narrowRecord i).conflictSeen = true then s
      else { s with
        narrow := { s.narrow with records := s.narrow.records.set i { s.narrowRecord i with conflictSeen := true } }
        counters := { s.counters with narrowConflict := bump s.counters.narrowConflict } } := rfl

/-! ### An ASK (R144, R150) -/

/-- The relation calls for an answer to an ASK (R144). -/
def State.AnswersAsk (s : State) (a : AskFrame) : Prop :=
  (s.narrowRecord a.narrow).relation = .holding ∨
    (((s.narrowRecord a.narrow).relation = .asking ∨ (s.narrowRecord a.narrow).relation = .waiting) ∧
      (a.waitAge < (s.narrowRecord a.narrow).waitAge ∨
        ((s.narrowRecord a.narrow).waitAge = a.waitAge ∧ s.ownId < a.sender)))

/-- An ASK that concerns the station: from the opposite direction, for an enabled narrow (R144). -/
def State.Concerns (s : State) (d : Direction) (i : Nat) : Prop :=
  d ≠ s.road.direction ∧ ∃ e, s.cfg.narrows[i]? = some e ∧ e.disabled = none

theorem concerns_iff {d : Direction} {i : Nat} :
    s.Concerns d i ↔ ¬(d ≠ s.road.direction.opposite ∨ (s.cfg.enabledNarrow i).isNone = true) := by
  simp only [State.Concerns, ← enabledNarrow_eq_some_iff, not_or, opposite_ne_iff, Option.isNone_iff_eq_none,
    ← Option.isSome_iff_exists, Option.isSome_iff_ne_none, ne_eq]

variable {a : AskFrame} {stamp : Time}

theorem askArrival_of_unconcerned (h : ¬s.Concerns a.direction a.narrow) : askArrival a stamp s = s :=
  if_pos (not_not.1 (mt concerns_iff.2 h))

theorem askArrival_of_none (h : (s.narrowRecord a.narrow).relation = .none) : askArrival a stamp s = s := by
  unfold askArrival
  simp only [h]
  exact ite_self s

theorem askArrival_of_answers (hc : s.Concerns a.direction a.narrow) (h : s.AnswersAsk a) :
    askArrival a stamp s = takeAnswer (answerTo a s.time) s := by
  unfold askArrival
  rw [if_neg (concerns_iff.1 hc)]
  rcases h with hrel | ⟨hrel | hrel, hhigher⟩
  · simp only [hrel]
  · simp only [hrel, if_pos (higherPriority_iff.2 hhigher)]
  · simp only [hrel, if_pos (higherPriority_iff.2 hhigher)]

/-- A claimant of lower priority gives way, except in LOCKOUT (R144, R152). -/
theorem askArrival_of_yields (hc : s.Concerns a.direction a.narrow) (h : ¬s.AnswersAsk a) :
    askArrival a stamp s =
      if s.mode = .lockout ∨ (s.narrowRecord a.narrow).relation = .none then s
      else if (s.narrowRecord a.narrow).relation = .asking then enterWaiting a.narrow s
      else if (s.narrowRecord a.narrow).phase = some .contesting then deferPhase a.narrow s
      else s := by
  have hlower (hrel : (s.narrowRecord a.narrow).relation = .asking ∨ (s.narrowRecord a.narrow).relation = .waiting) :
      ¬higherPriority (s.narrowRecord a.narrow).waitAge s.ownId a.waitAge a.sender = true :=
    fun hh => h (.inr ⟨hrel, higherPriority_iff.1 hh⟩)
  unfold askArrival
  rw [if_neg (concerns_iff.1 hc)]
  cases hrel : (s.narrowRecord a.narrow).relation with
  | none => simp
  | holding => exact absurd (.inl hrel) h
  | asking => simp [hlower (.inl hrel)]
  | waiting => simp [hlower (.inr hrel)]

theorem queueAny_iff {q : List AnswerEntry} {e : AnswerEntry} :
    q.any (fun x => decide (x.askerId = e.askerId) && decide (x.narrow = e.narrow)) = true ↔
      ∃ x ∈ q, x.askerId = e.askerId ∧ x.narrow = e.narrow := by
  simp

theorem takeAnswer_of_same {e : AnswerEntry} (h : ∃ x ∈ s.narrow.queue, x.askerId = e.askerId ∧ x.narrow = e.narrow) :
    takeAnswer e s = s.setNarrow { s.narrow with queue := s.narrow.queue.map fun x =>
      if x.askerId = e.askerId ∧ x.narrow = e.narrow then
        { x with askerDirection := e.askerDirection, askerWaitAge := e.askerWaitAge }
      else x } := by
  have hany := queueAny_iff.2 h
  have hfits : answerOverflows s.narrow.queue e = false := by rw [answerOverflows, hany]; rfl
  unfold takeAnswer queueAnswer
  rw [hfits, if_pos hany]
  rfl

theorem takeAnswer_of_new {e : AnswerEntry}
    (h : ∀ x ∈ s.narrow.queue, ¬(x.askerId = e.askerId ∧ x.narrow = e.narrow)) :
    takeAnswer e s =
      if s.narrow.queue.length < 4 then s.setNarrow { s.narrow with queue := s.narrow.queue ++ [e] }
      else s.setCounters { s.counters with answerDropped := bump s.counters.answerDropped } := by
  have hany : ¬s.narrow.queue.any (fun x => decide (x.askerId = e.askerId) && decide (x.narrow = e.narrow)) = true :=
    fun hany => by
      obtain ⟨x, hx, hsame⟩ := queueAny_iff.1 hany
      exact h x hx hsame
  unfold takeAnswer queueAnswer answerOverflows
  rw [if_neg hany, Bool.eq_false_of_not_eq_true hany]
  by_cases hroom : s.narrow.queue.length < 4
  · rw [if_pos hroom, if_pos hroom, decide_eq_false (not_le.2 hroom)]
    rfl
  · rw [if_neg hroom, if_neg hroom, decide_eq_true (not_lt.1 hroom)]
    rfl

/-! ### An OBJECT (R145, R146) -/

variable {o : ObjectFrame} {e : NarrowEntry}

/-- An objection to this station, outside LOCKOUT (R145). -/
theorem objectArrival_of_heeded (he : s.cfg.enabledNarrow o.narrow = some e) (hd : o.direction ≠ s.road.direction)
    (htarget : o.target = s.ownId) (hmode : s.mode ≠ .lockout) :
    objectArrival o stamp s =
      match (s.narrowRecord o.narrow).relation with
      | .none => s
      | .asking => enterWaiting o.narrow s
      | .waiting => if (s.narrowRecord o.narrow).phase = some .contesting then deferPhase o.narrow s else s
      | .holding => lateObjection o e s := by
  have hthis : ¬(o.direction ≠ s.road.direction.opposite ∨ o.target ≠ s.ownId ∨ s.mode = .lockout) := by
    rw [opposite_ne_iff]
    simp [hd, htarget, hmode]
  unfold objectArrival
  simp only [he, if_neg hthis] <;> rfl

theorem objectArrival_of_not_heeded
    (h : o.direction = s.road.direction ∨ o.target ≠ s.ownId ∨ s.mode = .lockout ∨ s.cfg.enabledNarrow o.narrow = none) :
    objectArrival o stamp s = s := by
  unfold objectArrival
  dsimp only
  split
  · rfl
  · next e he =>
    refine if_pos ?_
    rw [opposite_ne_iff]
    rcases h with h | h | h | h
    · exact .inl h
    · exact .inr (.inl h)
    · exact .inr (.inr h)
    · exact nomatch he.symm.trans h

theorem lateObjection_of_inherited (h : (s.narrowRecord o.narrow).inherited = true) :
    lateObjection o e s = countLateObjection s := if_pos h

theorem lateObjection_of_own (h : (s.narrowRecord o.narrow).inherited = false) :
    lateObjection o e s =
      if o.relation = .holding ∨ (s.narrowRecord o.narrow).waitAge < o.waitAge ∨
          (o.waitAge = (s.narrowRecord o.narrow).waitAge ∧ o.sender < s.ownId) then
        if s.pastStopLine e = true then countLateObjection s else enterWaiting o.narrow s
      else s := by
  unfold lateObjection
  dsimp only
  rw [if_neg (by simp [h])]
  exact if_congr (by rw [higherPriority_iff]) rfl rfl

end Sys2Proof.Machine

namespace Sys2Proof.Proofs
open Sys2Proof.Machine

/-- Settles O29: the record held, or room for one. -/
theorem beaconsWriteTheTable : Obligations.BeaconsWriteTheTable := by
  intro s f b hf hload hlock hcheck hsound p written
  obtain ⟨-, hordered, hids, -, -⟩ := hsound
  have hexec := exec_accepted hf hload hlock hcheck
  have hwritten (h : beaconArrival b f.stamp s.frameClosed =
      writeRecord (recordOf b f.stamp) (removeId b.sender s.peers.records) s.frameClosed) : written := by
    obtain ⟨hmem, hpairwise⟩ := insertRecord_removeId (p := p) (id := b.sender) hordered fun r _ hr => hr
    refine ⟨_, hmem, hpairwise, hexec.trans (next_congr (h.trans ?_))⟩
    exact writeRecord_frameClosed _ _ _
  refine ⟨fun held hheld hid => ?_, fun hnew hroom => hwritten ?_⟩
  · intro ahead
    have hfind := findId_eq_some hids hheld hid
    refine ⟨fun hnewer => hwritten ?_, fun hnot hold => hexec.trans (next_congr ?_)⟩
    · simp only [beaconArrival, frameClosed_peers, hfind, if_pos (beaconNewer_iff.2 hnewer)]
    · have hold' : ¬beaconNewer b held = true := by
        rw [beaconNewer_iff, hnot]
        show ¬(false = true ∨ (1 ≤ ahead ∧ ahead ≤ 127))
        simp only [Bool.false_eq_true, false_or]
        omega
      obtain ⟨air, hair⟩ := frameClosed_eq s
      have hfind' : findId b.sender (s.setAir air).peers.records = some held := hfind
      show beaconArrival b f.stamp s.frameClosed = _
      rw [hair]
      unfold beaconArrival
      rw [hfind']
      exact if_neg hold'
  · simp only [beaconArrival, frameClosed_peers, findId_eq_none hnew, if_pos hroom, removeId_of_not_mem hnew]

/-- Settles O30: the victim is the one weaker than all others, and the newcomer is weighed against it. -/
theorem fullTableWeighsTheNewcomer : Obligations.FullTableWeighsTheNewcomer := by
  intro s f b victim hf hload hlock hcheck hsound hfull hnew hvictim front rear freshClass relevance distance hweakest p dropped
  obtain ⟨-, hordered, hids, -, -⟩ := hsound
  have hexec := exec_accepted hf hload hlock hcheck
  have hfresh (r : PeerRecord) : s.freshClass r = freshClass r := if_congr justAhead_iff rfl rfl
  have hrel (r : PeerRecord) : s.relevance r = relevance r := by
    show (if r.fresh s.time = true then s.freshClass r else 4) = _
    rw [hfresh]
    exact if_congr decide_eq_true_iff rfl rfl
  have hdropped : s.newcomerDropped p victim = true ↔ dropped := by
    rw [newcomerDropped_iff, hrel, hfresh]
    rfl
  have hweak (r : PeerRecord) (hr : r ∈ s.peers.records) (hne : r ≠ victim) : s.weaker victim r = true := by
    have h := hweakest r hr hne
    rw [← hrel, ← hrel] at h
    change _ ∨ (_ ∧ (s.weighDistance r < s.weighDistance victim ∨ (s.weighDistance r = s.weighDistance victim ∧ _))) at h
    rw [weaker_iff]
    omega
  have hvictim' : s.victim s.peers.records = some victim := victim_eq hvictim hweak
  have harrival : beaconArrival b f.stamp s.frameClosed = weighNewcomer p s.frameClosed := by
    simp only [beaconArrival, frameClosed_peers, findId_eq_none hnew, hfull]
    rfl
  obtain ⟨air, hair⟩ := frameClosed_eq s
  have hweigh : weighNewcomer p s.frameClosed =
      if s.newcomerDropped p victim = true then
        s.frameClosed.setCounters { s.counters with tableFull := bump s.counters.tableFull }
      else writeRecord p (removeId victim.id s.peers.records) s.frameClosed := by
    rw [hair]
    have hv : (s.setAir air).victim (s.setAir air).peers.records = some victim := (victim_setAir _).trans hvictim'
    unfold weighNewcomer
    rw [hv]
    rfl
  refine ⟨fun h => hexec.trans (next_congr ?_), fun h => ?_⟩
  · exact harrival.trans (hweigh.trans (if_pos (hdropped.2 h)))
  · have hsame (r : PeerRecord) (hr : r ∈ s.peers.records) : r.id ≠ victim.id ↔ r ≠ victim :=
      not_congr ⟨fun hid => List.inj_on_of_nodup_map hids hr hvictim hid, fun heq => heq ▸ rfl⟩
    obtain ⟨hmem, hpairwise⟩ := insertRecord_removeId (p := p) (id := victim.id) hordered fun r hr _ => hnew r hr
    refine ⟨_, fun r => ?_, hpairwise, hexec.trans (next_congr ?_)⟩
    · rw [hmem]
      exact or_congr_right (and_congr_right (hsame r))
    · exact (harrival.trans (hweigh.trans (if_neg (mt hdropped.1 h)))).trans (writeRecord_frameClosed _ _ _)

/-- Settles O32: each reader alone. -/
theorem writeNoticesReachTheirReaders : Obligations.WriteNoticesReachTheirReaders := by
  intro s p counted lost
  refine ⟨fun hlost horder hnarrow => ?_, fun hlost horder hnarrow => ?_, fun part hlost hnarrow horder => ?_,
    fun part e hlost horder hnarrow he henabled => ?_⟩
  · exact (writeNotice_of_no_parts horder hnarrow s).trans (if_neg hlost)
  · exact (writeNotice_of_no_parts horder hnarrow s).trans (if_pos hlost)
  · intro eligible ahead taken
    have hnotice : writeNotice p s = adoptionTest p counted := writeNotice_of_order hlost hnarrow
    have htest : adoptionTest p counted =
        if eligible then
          if s.order.unsynchronised = true then taken
          else if 1 ≤ ahead ∧ ahead ≤ 7 then actOnOrder part.code taken
          else counted
        else counted := adoptionTest_of_part horder counted
    rw [hnotice, htest]
    refine ⟨fun h => if_neg h, fun h hun => ?_, fun h hun hlow hhigh => ?_, fun h hun hold => ?_⟩
    · rw [if_pos h, if_pos hun]
    · rw [if_pos h, if_neg (by simp [hun]), if_pos ⟨hlow, hhigh⟩]
      cases part.code <;> rfl
    · rw [if_pos h, if_neg (by simp [hun]), if_neg (by omega)]
  · intro r contested theirsHigher past ownPast givesWay
    have hnotice : writeNotice p s = doubleHolderTest p counted := writeNotice_of_narrow hlost horder
    have hown : s.pastStopLine e = true ↔ ownPast := isPastStopLine_iff
    have htheirs : isPastStopLine s.cfg e p.direction p.position = true ↔ past p.direction p.position := isPastStopLine_iff
    have hgives : givesWay ↔ (r.inherited = false ∧ theirsHigher ∧ ¬s.pastStopLine e = true) := by rw [hown]
    have htest := hnotice.trans
      (doubleHolderTest_of_part (s := counted) hnarrow (enabledNarrow_eq_some_iff.2 ⟨he, henabled⟩))
    refine ⟨fun h => htest.trans (if_neg h), fun h hg => htest.trans ((if_pos h).trans (if_pos (hgives.1 hg))),
      fun h hg ho hp hseen => htest.trans ((if_pos h).trans ((if_neg (mt hgives.2 hg)).trans ?_)),
      fun h hg hrest => htest.trans ((if_pos h).trans ((if_neg (mt hgives.2 hg)).trans ?_))⟩
    · refine (if_pos ⟨hown.2 ho, htheirs.2 hp⟩).trans ((noteConflict_eq _ counted).trans (if_neg ?_))
      exact Bool.eq_false_iff.1 hseen
    · rcases hrest with ho | hp | hseen
      · exact if_neg fun hb => ho (hown.1 hb.1)
      · exact if_neg fun hb => hp (htheirs.1 hb.2)
      · have hquiet : noteConflict part.index counted = counted := (noteConflict_eq _ counted).trans (if_pos hseen)
        rw [hquiet]
        exact ite_self counted

/-- Settles O37: by the relation with the narrow asked for. -/
theorem asksAreAnsweredOrYieldedTo : Obligations.AsksAreAnsweredOrYieldedTo := by
  intro s f a hf hload hlock hcheck
  have hexec := exec_accepted hf hload hlock hcheck
  obtain ⟨air, hair⟩ := frameClosed_eq s
  rw [hair] at hexec ⊢
  intro s1 r concerned ownHigher answers same
  change exec .receivedFrame s = .next (settleLamps (askArrival a f.stamp s1)) at hexec
  have hanswer (hc : concerned) (ha : answers) : askArrival a f.stamp s1 = takeAnswer (answerTo a s1.time) s1 :=
    askArrival_of_answers (s := s1) hc ha
  have hyield (hc : concerned) (ha : ¬answers) := askArrival_of_yields (s := s1) (stamp := f.stamp) hc ha
  refine ⟨fun h => ?_, fun hc ha hq => ?_, fun hc ha hq hroom => ?_, fun hc ha hq hfull => ?_, fun hc ha hrel hmode => ?_,
    fun hc ha hrel hmode => ?_, fun hc ha hmode => ?_⟩ <;> refine hexec.trans (next_congr ?_)
  · rcases h with h | h
    · exact askArrival_of_unconcerned (s := s1) h
    · exact askArrival_of_none (s := s1) h
  · exact (hanswer hc ha).trans (takeAnswer_of_same (s := s1) (e := answerTo a s1.time) hq)
  · exact (hanswer hc ha).trans ((takeAnswer_of_new (s := s1) (e := answerTo a s1.time) hq).trans (if_pos hroom))
  · exact (hanswer hc ha).trans ((takeAnswer_of_new (s := s1) (e := answerTo a s1.time) hq).trans (if_neg (not_lt.2 hfull)))
  · have hcan : ¬(s1.mode = .lockout ∨ (s1.narrowRecord a.narrow).relation = .none) :=
      not_or.2 ⟨hmode, fun h => nomatch hrel.symm.trans h⟩
    exact (hyield hc ha).trans ((if_neg hcan).trans (if_pos hrel))
  · have hcan : ¬(s1.mode = .lockout ∨ (s1.narrowRecord a.narrow).relation = .none) :=
      not_or.2 ⟨hmode, fun h => nomatch hrel.symm.trans h⟩
    have hnot : ¬(s1.narrowRecord a.narrow).relation = .asking := fun h => nomatch hrel.symm.trans h
    exact (hyield hc ha).trans ((if_neg hcan).trans (if_neg hnot))
  · exact (hyield hc ha).trans (if_pos (.inl hmode))

/-- Settles O38: by the relation with the narrow objected to. -/
theorem objectionsAreHeeded : Obligations.ObjectionsAreHeeded := by
  intro s f o hf hload hlock hcheck
  have hexec := exec_accepted hf hload hlock hcheck
  obtain ⟨air, hair⟩ := frameClosed_eq s
  rw [hair] at hexec ⊢
  intro s1 r
  change exec .receivedFrame s = .next (settleLamps (objectArrival o f.stamp s1)) at hexec
  refine ⟨fun e he henabled hd htarget hmode => ?_, fun h => hexec.trans (next_congr (objectArrival_of_not_heeded ?_))⟩
  · intro past grave late
    have harrival := objectArrival_of_heeded (s := s1) (stamp := f.stamp) (enabledNarrow_eq_some_iff.2 ⟨he, henabled⟩) hd
      htarget hmode
    have hpast : s1.pastStopLine e = true ↔ past := isPastStopLine_iff
    refine ⟨fun hrel => ?_, fun hrel => ?_, fun hrel => ?_, fun hrel hi => ?_, fun hrel hi hg hp => ?_,
      fun hrel hi hg hp => ?_, fun hrel hi hg => ?_⟩ <;> refine hexec.trans (next_congr ?_) <;>
      rw [harrival, show (s1.narrowRecord o.narrow).relation = _ from hrel]
    · rfl
    · exact lateObjection_of_inherited hi
    · exact (lateObjection_of_own (s := s1) hi).trans ((if_pos hg).trans (if_pos (hpast.2 hp)))
    · exact (lateObjection_of_own (s := s1) hi).trans ((if_pos hg).trans (if_neg (mt hpast.1 hp)))
    · exact (lateObjection_of_own (s := s1) hi).trans (if_neg hg)
  · rcases h with h | h | h | h
    · exact .inl h
    · exact .inr (.inl h)
    · exact .inr (.inr (.inl h))
    · refine .inr (.inr (.inr (Option.eq_none_iff_forall_ne_some.2 fun e he => ?_)))
      obtain ⟨hentry, henabled⟩ := enabledNarrow_eq_some_iff.1 he
      exact h e hentry henabled

end Sys2Proof.Proofs
end

section
/-!
PROOFS. The Service Line: words, requests, and the lines of every response (O52, O53).
-/

namespace Sys2Proof.Machine

variable {s t : State}

/-! ### Requests (R186, R187) -/

/-- The commands that stand for a completed word, with the request each names. -/
def requestCommands : List (Instr × Request) :=
  [(.status, .status), (.peers, .peers), (.holds, .holds), (.narrows, .narrows), (.counters, .counters), (.config, .config),
    (.clear, .clear), (.resume, .resume), (.restartRequest, .restart), (.unknownWord, .unknown)]

theorem exec_of_requestCommand {c : Instr} {q : Request} (h : (c, q) ∈ requestCommands) (s : State) :
    exec c s = done (requestArrives q s) := by
  simp only [requestCommands, List.mem_cons, List.not_mem_nil, or_false, Prod.mk.injEq] at h
  rcases h with ⟨rfl, rfl⟩ | ⟨rfl, rfl⟩ | ⟨rfl, rfl⟩ | ⟨rfl, rfl⟩ | ⟨rfl, rfl⟩ | ⟨rfl, rfl⟩ | ⟨rfl, rfl⟩ | ⟨rfl, rfl⟩ |
    ⟨rfl, rfl⟩ | ⟨rfl, rfl⟩ <;> rfl

theorem requestArrives_taken (hresponse : s.service.response = none) (hpending : s.service.pendingRequest = none)
    (q : Request) : requestArrives q s = takeRequest q s := by
  rcases requestArrives_cases s q with ⟨-, -, h⟩ | ⟨h, -⟩ | ⟨h, -⟩
  · exact h
  · exact absurd hresponse h
  · exact absurd hpending h

theorem requestArrives_waits (hresponse : s.service.response ≠ none) (hpending : s.service.pendingRequest = none)
    (q : Request) : requestArrives q s = s.setService { s.service with pendingRequest := some q } := by
  rcases requestArrives_cases s q with ⟨h, -⟩ | ⟨-, -, h⟩ | ⟨h, -⟩
  · exact absurd h hresponse
  · exact h
  · exact absurd hpending h

theorem requestArrives_dropped (hpending : s.service.pendingRequest ≠ none) (q : Request) :
    requestArrives q s = s.setCounters { s.counters with requestDropped := bump s.counters.requestDropped } := by
  rcases requestArrives_cases s q with ⟨-, h, -⟩ | ⟨-, h, -⟩ | ⟨-, h⟩
  · exact absurd h hpending
  · exact absurd h hpending
  · exact h

theorem takeRequest_eq (q : Request) (s : State) :
    takeRequest q s =
      let s1 := s.setService { s.service with response := some { request := q, lines := s.responseLines q } }
      if q = .clear then s1.setCounters .zero
      else if q = .resume then resumeGesture (s1.setHandset { s.handset with resumePending := false })
      else s1 := by
  cases q <;> rfl

/-! ### Words (R186) -/

/-- The words that name a request, in ASCII. -/
def knownWords : List (List Byte × Request) :=
  [([83, 84, 65, 84, 85, 83], .status), ([80, 69, 69, 82, 83], .peers), ([72, 79, 76, 68, 83], .holds),
    ([78, 65, 82, 82, 79, 87, 83], .narrows), ([67, 79, 85, 78, 84, 69, 82, 83], .counters),
    ([67, 79, 78, 70, 73, 71], .config), ([67, 76, 69, 65, 82], .clear), ([82, 69, 83, 85, 77, 69], .resume),
    ([82, 69, 83, 84, 65, 82, 84], .restart)]

theorem requestOfWord_of_known : ∀ p ∈ knownWords, requestOfWord p.1 = p.2 := by decide

theorem requestOfWord_of_unknown {w : List Byte} (h : ∀ p ∈ knownWords, w ≠ p.1) : requestOfWord w = .unknown := by
  have hne (p : List Byte × Request) (hp : p ∈ knownWords) {cs : List Char} (hcs : asciiWord cs = p.1) :
      w ≠ asciiWord cs := hcs ▸ h p hp
  unfold requestOfWord
  rw [if_neg (hne (knownWords[0]) (by decide) (by decide)), if_neg (hne (knownWords[1]) (by decide) (by decide)),
    if_neg (hne (knownWords[2]) (by decide) (by decide)), if_neg (hne (knownWords[3]) (by decide) (by decide)),
    if_neg (hne (knownWords[4]) (by decide) (by decide)), if_neg (hne (knownWords[5]) (by decide) (by decide)),
    if_neg (hne (knownWords[6]) (by decide) (by decide)), if_neg (hne (knownWords[7]) (by decide) (by decide)),
    if_neg (hne (knownWords[8]) (by decide) (by decide))]

theorem receivedCharacter_cr (h : s.service.word ≠ []) :
    receivedCharacter 13#8 s =
      requestArrives s.service.completed (s.setService { s.service with word := [], overlong := false }) :=
  if_neg h

/-! ### The lines (R188) -/

/-- The entries that pass a test, by their index or with it. -/
theorem filterMap_range_eq {α β : Type} (p : α → Bool) (g : Nat → α → β) (l : List α) :
    (List.range l.length).filterMap (fun i => (l[i]?.filter p).map (g i)) =
      (l.zipIdx.filter fun x => p x.1).map fun x => g x.2 x.1 := by
  induction l using List.reverseRecOn with
  | nil => rfl
  | append_singleton l x ih =>
    have hsame : (List.range l.length).filterMap (fun i => ((l ++ [x])[i]?.filter p).map (g i)) =
        (List.range l.length).filterMap (fun i => (l[i]?.filter p).map (g i)) :=
      List.filterMap_congr fun i hi => by rw [List.getElem?_append_left (List.mem_range.1 hi)]
    rw [List.length_append, List.length_singleton, List.range_succ, List.filterMap_append, hsame, ih, List.zipIdx_append,
      List.filter_append, List.map_append]
    cases hp : p x <;> simp [hp]

theorem narrowLines_eq (s : State) :
    s.narrowLines = (s.cfg.narrows.zipIdx.filter fun p => p.1.disabled.isNone).map
      fun p => narrowLine p.2 p.1 (s.narrowRecord p.2) :=
  filterMap_range_eq (fun e : NarrowEntry => e.disabled.isNone) (fun i e => narrowLine i e (s.narrowRecord i)) s.cfg.narrows

theorem predecessorFields_eq (p : Option Predecessor) :
    predecessorFields p = [numField "PRED" (match p with | none => 0 | some p => p.id),
      match p.map fun p => p.gap with | none => absentField "GAP" | some n => numField "GAP" n] := by
  cases p <;> rfl

theorem clampedFlag_iff : s.clampedFlag = true ↔ s.loader.clamped ≠ [] := by
  unfold State.clampedFlag
  cases s.loader.clamped <;> simp

theorem any_station_eq (l : List ConfigField) (f : StationField) :
    l.any (fun x => decide (x = .station f)) = decide (.station f ∈ l) := by
  rw [Bool.eq_iff_iff]
  simp

end Sys2Proof.Machine

namespace Sys2Proof.Proofs
open Sys2Proof.Machine

/-- Settles O52: the request by the state of the line, and each response's lines. -/
theorem serviceRequestsAreTaken : Obligations.ServiceRequestsAreTaken := by
  refine ⟨fun s c q hc => ?_, fun s => ?_⟩
  · have hexec := exec_of_requestCommand hc s
    refine ⟨fun hresponse hpending => hexec.trans (next_congr ?_), fun hresponse hpending => hexec.trans (next_congr ?_),
      fun hpending => hexec.trans (next_congr ?_)⟩
    · exact (requestArrives_taken hresponse hpending q).trans (takeRequest_eq q s)
    · exact requestArrives_waits hresponse hpending q
    · exact requestArrives_dropped hpending q
  · intro num word flag minus numOr wordOr age state duty
    have hpart {α : Type} {l : List α} {f g : α → ServiceText} {tail : List ServiceText} (h : ∀ x, f x = g x) :
        l.map f ++ tail = l.map g ++ tail := by rw [funext h]
    refine ⟨?_, hpart fun r => ?_, hpart fun p => ?_, ?_, rfl, ?_, ?_, rfl⟩
    · show [s.statusLine, .finish] = _
      rw [State.statusLine, predecessorFields_eq, flagsField]
      simp only [clampedFlag_iff]
      cases s.spacing.predecessor <;> rfl
    · have hfresh : (r.fresh s.time = true) = ((s.time - r.stamp).toNat ≤ 3 * r.period) := propext decide_eq_true_iff
      simp only [peerLine, hfresh]
      cases r.narrowPart <;> cases r.orderPart <;> rfl
    · simp only [holdLine]
      cases p.1.lostId <;> rfl
    · show s.narrowLines ++ s.narrow.queue.map (queueLine s.time) ++ [.finish] = _
      rw [narrowLines_eq]
      refine congrArg (fun l => l ++ s.narrow.queue.map (queueLine s.time) ++ [.finish]) ?_
      refine List.map_congr_left fun p _ => ?_
      simp only [narrowLine]
      cases (s.narrowRecord p.2).phase <;> rfl
    · show loadLine s.loader.reason :: s.configLines ++ [.finish] = _
      unfold State.configLines
      cases s.config with
      | none => rfl
      | some c =>
        refine congrArg (fun l => loadLine s.loader.reason :: l ++ [.finish]) ?_
        refine congrArg₂ (· ++ ·) (congrArg₂ (· ++ ·) (List.map_congr_left fun f _ => ?_) (List.map_congr_left fun p _ => ?_))
          (List.map_congr_left fun p _ => ?_)
        · rw [stationLine, any_station_eq]
          rfl
        · have hkind : kindField p.1.kind =
              wordOr "KIND" (if p.1.kind = 0 then some "POSITION" else if p.1.kind ≤ 2 then some "TURN" else none) := by
            unfold kindField
            by_cases h0 : p.1.kind = 0
            · rw [if_pos h0, if_pos h0]
              rfl
            · rw [if_neg h0, if_neg h0]
              by_cases h2 : p.1.kind ≤ 2
              · rw [if_pos h2, if_pos h2]
                rfl
              · rw [if_neg h2, if_neg h2]
                rfl
          rw [markerLine, hkind]
          rfl
        · rfl
    · intro q hq
      simp only [List.mem_cons, List.not_mem_nil, or_false] at hq
      rcases hq with rfl | rfl | rfl <;> rfl

/-- Settles O53: the character, and the word it ends. -/
theorem serviceWordsAreCollected : Obligations.ServiceWordsAreCollected := by
  refine fun s => ⟨next_congr (if_pos rfl), fun hempty => next_congr ?_, fun char hlf hcr => next_congr ?_, ?_,
    fun r hresponse hrequest => ⟨fun hpending => next_congr ?_, fun q hpending => next_congr ?_⟩,
    fun hresponse => next_congr ?_⟩
  · simp [receivedCharacter, hempty]
  · have hcollect : receivedCharacter char s = s.setService (s.service.collect char) :=
      (if_neg hlf).trans (if_neg hcr)
    rw [hcollect, Service.collect]
    split <;> rfl
  · intro known ended
    have hend (hword : s.service.word ≠ []) {c : Instr} {q : Request} (hc : (c, q) ∈ requestCommands)
        (hq : s.service.completed = q) : exec (.receivedCharacter 13) s = exec c ended := by
      refine (next_congr (receivedCharacter_cr hword)).trans ?_
      rw [hq]
      exact (exec_of_requestCommand hc ended).symm
    refine ⟨fun p hp hword hshort => ?_, fun hword hunknown => hend hword (q := .unknown) (by decide) ?_⟩
    · have hknown : ∀ p ∈ known, p.1 ≠ [] ∧ (p.2, requestOfWord p.1) ∈ requestCommands := by decide
      obtain ⟨hne, hc⟩ := hknown p hp
      exact hend (hword ▸ hne) hc (by rw [Service.completed, hshort, hword]; rfl)
    · have hwords : known.map Prod.fst = knownWords.map Prod.fst := rfl
      rcases hunknown with hlong | hother
      · rw [Service.completed, if_pos hlong]
      · have hunknown : requestOfWord s.service.word = .unknown := by
          refine requestOfWord_of_unknown fun p hp => ?_
          have hmem : p.1 ∈ known.map Prod.fst := hwords.symm ▸ List.mem_map_of_mem hp
          obtain ⟨k, hk, hkp⟩ := List.mem_map.1 hmem
          exact hkp ▸ hother k hk
        rw [Service.completed, hunknown, ite_self]
  · simp only [responseEnd, hresponse, hpending, if_neg hrequest]
    rfl
  · simp only [responseEnd, hresponse, hpending, if_neg hrequest]
    rfl
  · simp only [responseEnd, hresponse]

end Sys2Proof.Proofs
end

section
/-!
PROOFS. The control step of the Spacing Unit, stage by stage: what each stage leaves, the turn, the frozen membership, the step
sample and the LINK_LOSS check (O40, O41).
-/

namespace Sys2Proof.Machine

variable {s t u : State}

/-! ### What a membership stage touches -/

/-- The part of the Spacing Unit that membership never writes. -/
def SpacingUnit.core (u : SpacingUnit) : Nat × Bool × Bool × Nat × Bool × Running :=
  (u.vRef, u.closeIn, u.braking, u.lostId, u.autoEntry, u.stepTimer)

/-- A move of membership: the Spacing Unit but for its core, the order record, and the beacon schedule. -/
structure State.MembershipMove (s t : State) : Prop where
  eq : t = ((s.setSpacing t.spacing).setOrder t.order).setAir t.air
  sample : t.air.sample = s.air.sample
  core : t.spacing.core = s.spacing.core

theorem State.MembershipMove.refl (s : State) : s.MembershipMove s := ⟨rfl, rfl, rfl⟩

theorem State.MembershipMove.trans (h : s.MembershipMove t) (h' : t.MembershipMove u) : s.MembershipMove u := by
  refine ⟨?_, h'.sample.trans h.sample, h'.core.trans h.core⟩
  calc u = ((t.setSpacing u.spacing).setOrder u.order).setAir u.air := h'.eq
    _ = ((s.setSpacing u.spacing).setOrder u.order).setAir u.air := by
      rw [h.eq]
      rfl

theorem membershipMove_setSpacing {x : SpacingUnit} (h : x.core = s.spacing.core) : s.MembershipMove (s.setSpacing x) :=
  ⟨rfl, rfl, h⟩

theorem noteModeChange_sample (before : Mode) : (noteModeChange before s).air.sample = s.air.sample := by
  unfold noteModeChange
  split <;> rfl

theorem membershipMove_noteModeChange (before : Mode) : s.MembershipMove (noteModeChange before s) := by
  refine ⟨?_, noteModeChange_sample before, congrArg SpacingUnit.core (noteModeChange_spacing s before)⟩
  unfold noteModeChange
  split <;> rfl

theorem membershipMove_setMembership {x : SpacingUnit} (h : x.core = s.spacing.core) : s.MembershipMove (s.setMembership x) :=
  (membershipMove_setSpacing h).trans (membershipMove_noteModeChange _)

theorem membershipMove_joinNotice (id : Nat) : s.MembershipMove (joinNotice id s) := by
  rw [joinNotice_frame]
  exact ⟨rfl, rfl, rfl⟩

theorem membershipMove_joinBehind (r : PeerRecord) {x : SpacingUnit} (h : x.core = s.spacing.core) :
    s.MembershipMove (joinBehind r x s) :=
  (membershipMove_setMembership (by exact h)).trans (membershipMove_joinNotice _)

theorem membershipMove_splitOff : s.MembershipMove (splitOff s) := membershipMove_setMembership rfl

theorem membershipMove_updateMembership (r : PeerRecord) (timer : Running) :
    s.MembershipMove (updateMembership r timer s) := by
  unfold updateMembership
  dsimp only
  split
  · exact membershipMove_setSpacing rfl
  · exact State.MembershipMove.trans (by exact membershipMove_setSpacing rfl) (membershipMove_joinNotice _)

theorem membershipMove_headMembership (sel : Option PeerRecord) : s.MembershipMove (headMembership sel s) := by
  cases sel with
  | none => exact .refl s
  | some r =>
    unfold headMembership
    dsimp only
    split
    · exact membershipMove_joinBehind r rfl
    · exact .refl s

theorem membershipMove_followMembership (sel : Option PeerRecord) : s.MembershipMove (followMembership sel s) := by
  cases sel with
  | none => exact membershipMove_splitOff
  | some r =>
    unfold followMembership
    dsimp only
    repeat' split
    · exact membershipMove_splitOff
    · exact membershipMove_updateMembership _ _
    · exact membershipMove_updateMembership _ _
    · exact membershipMove_splitOff
    · exact membershipMove_updateMembership _ _

theorem membershipMove_parkedMembership (sel : Option PeerRecord) (auto turned : Bool) :
    s.MembershipMove (parkedMembership sel auto turned s) := by
  unfold parkedMembership wakeToHead
  dsimp only
  repeat' split
  · exact membershipMove_setSpacing rfl
  · exact membershipMove_joinBehind _ rfl
  · exact membershipMove_setMembership rfl
  · exact membershipMove_setMembership rfl
  · exact membershipMove_setSpacing rfl

theorem membershipMove_runningMembership (sel : Option PeerRecord) (turned : Bool) :
    s.MembershipMove (runningMembership sel turned s) := by
  unfold runningMembership
  repeat' split
  · exact .refl s
  · exact membershipMove_headMembership sel
  · exact .refl s
  · exact membershipMove_followMembership sel
  · exact .refl s

/-- Membership, by the mode: frozen, parking, running, or parked (R71 to R79). -/
theorem membershipMove_membershipStage (sel : Option PeerRecord) (turned : Bool) :
    (s.setSpacing { s.spacing with autoEntry := false }).MembershipMove (membershipStage sel turned s) := by
  unfold membershipStage park
  dsimp only
  repeat' split
  · exact membershipMove_setSpacing rfl
  · exact membershipMove_setSpacing rfl
  · exact membershipMove_setSpacing rfl
  · exact membershipMove_setMembership rfl
  · refine .trans ?_ (membershipMove_runningMembership _ _)
    exact membershipMove_setSpacing rfl
  · exact membershipMove_setMembership rfl
  · refine .trans ?_ (membershipMove_runningMembership _ _)
    exact membershipMove_setSpacing rfl
  · refine .trans ?_ (membershipMove_parkedMembership _ _ _)
    exact membershipMove_setSpacing rfl
  · refine .trans ?_ (membershipMove_runningMembership _ _)
    exact membershipMove_setSpacing rfl
  · exact membershipMove_parkedMembership _ _ _

/-! ### Before membership: the turn, the predecessor, the LINK_LOSS check -/

/-- The Spacing Unit after a turn is taken (R75). -/
def State.turnedSpacing (s : State) : SpacingUnit :=
  if s.road.turnSpacing = true then
    { s.spacing with
      predecessor := none, role := if s.spacing.role = .parked then .parked else .head, convoyId := s.ownId
      memberIndex := 0, splitTimer := none, parkTimer := none, wakeTimer := none }
  else s.spacing

theorem takeTurn_eq (s : State) :
    ∃ air, air.sample = s.air.sample ∧
      takeTurn s = { s with air, road := { s.road with turnSpacing := false }, spacing := s.turnedSpacing } := by
  cases hturn : s.road.turnSpacing with
  | false =>
    refine ⟨s.air, rfl, ?_⟩
    have hroad : ({ s.road with turnSpacing := false } : RoadTracker) = s.road := by rw [← hturn]
    rw [takeTurn, State.turnedSpacing, hturn, hroad]
    rfl
  | true =>
    have hspacing : s.turnedSpacing = { s.spacing with
        predecessor := none, role := if s.spacing.role = .parked then .parked else .head, convoyId := s.ownId
        memberIndex := 0, splitTimer := none, parkTimer := none, wakeTimer := none } := if_pos hturn
    rw [takeTurn, if_pos hturn, hspacing]
    refine ⟨_, ?_, noteModeChange_frame _ s.mode⟩
    exact noteModeChange_sample s.mode

theorem linkLossCheck_cases (sel : Option PeerRecord) (s : State) :
    ((∀ r, sel = some r → ¬s.linkLost r = true) ∧ linkLossCheck sel s = s) ∨
    ∃ r, sel = some r ∧ s.linkLost r = true ∧
      linkLossCheck sel s = pushHold .linkLoss (some r.id) (s.setSpacing { s.spacing with lostId := r.id }) := by
  cases sel with
  | none => exact .inl ⟨nofun, rfl⟩
  | some r =>
    by_cases hlost : s.linkLost r = true
    · exact .inr ⟨r, rfl, hlost, if_pos hlost⟩
    · exact .inl ⟨by simpa using hlost, if_neg hlost⟩

theorem linkLost_iff {r : PeerRecord} : s.linkLost r = true ↔
    3 * r.period < (s.time - r.stamp).toNat ∧ s.spacing.role ≠ .parked ∧ s.mode ≠ .lockout ∧ r.id ≠ s.spacing.lostId := by
  have hstale : (!r.fresh s.time) = true ↔ 3 * r.period < (s.time - r.stamp).toNat := by
    rw [Bool.not_eq_true']
    exact decide_eq_false_iff_not.trans not_le
  simp only [State.linkLost, Bool.and_eq_true, hstale, and_assoc, ne_eq, decide_not, Bool.not_eq_true',
    decide_eq_false_iff_not]

/-- A push on an open stack: the drive stands unless the stack overran. -/
theorem pushHold_linkLoss (hopen : s.stackClosed = false) (lost : Option Nat) :
    ∃ air d, air.sample = s.air.sample ∧
      pushHold .linkLoss lost s = { s with air, holds := (pushHold .linkLoss lost s).holds, drive := d } ∧
      d.vMeas = s.drive.vMeas ∧ ((pushHold .linkLoss lost s).holds.lockout = s.holds.lockout → d = s.drive) := by
  have hsample : (pushHold .linkLoss lost s).air.sample = s.air.sample := by
    rcases pushHold_cases s .linkLoss lost with ⟨-, h⟩ | ⟨-, -, h⟩ | ⟨-, -, -, h⟩ | ⟨-, -, -, h⟩ <;> rw [h]
    all_goals exact noteModeChange_sample _
  have hdrive : (pushHold .linkLoss lost s).drive.vMeas = s.drive.vMeas ∧
      ((pushHold .linkLoss lost s).holds.lockout = s.holds.lockout → (pushHold .linkLoss lost s).drive = s.drive) := by
    rcases pushHold_holds_drive s .linkLoss lost with ⟨-, -, hd⟩ | ⟨-, -, -, hd⟩ | ⟨-, -, -, -, hd⟩ | ⟨-, -, -, hh, hd⟩
    · exact ⟨congrArg _ hd, fun _ => hd⟩
    · exact ⟨congrArg _ hd, fun _ => hd⟩
    · exact ⟨congrArg _ hd, fun _ => hd⟩
    · refine ⟨by rw [hd]; rfl, fun hlock => ?_⟩
      obtain ⟨-, hnone⟩ := stackClosed_eq_false.1 hopen
      rw [hh, hnone] at hlock
      contradiction
  exact ⟨_, _, hsample, pushHold_frame s .linkLoss lost, hdrive⟩

/-- The state as membership finds it. -/
def State.beforeMembership (s : State) : State :=
  linkLossCheck s.selected (selectPredecessor s.selected (takeTurn s))

/-- The state as the speed reference finds it. -/
def State.afterMembership (s : State) : State := membershipStage s.selected s.road.turnSpacing s.beforeMembership

theorem spacingStages_eq (s : State) : spacingStages s = referenceStage s.selected s.afterMembership := by
  unfold spacingStages State.afterMembership State.beforeMembership
  dsimp only
  rw [(takeTurn_sameRoadAhead s).selected]

/-- What the turn, the selection and the LINK_LOSS check leave. -/
theorem beforeMembership_eq (hload : s.loading = false) :
    ∃ air p lost h d, air.sample = s.air.sample ∧ d.vMeas = s.drive.vMeas ∧ (h.lockout = s.holds.lockout → d = s.drive) ∧
      s.beforeMembership = { s with
        air, road := { s.road with turnSpacing := false }
        spacing := { s.turnedSpacing with predecessor := p, lostId := lost }, holds := h, drive := d } := by
  obtain ⟨air, hsample, hturn⟩ := takeTurn_eq s
  unfold State.beforeMembership
  rcases linkLossCheck_cases s.selected (selectPredecessor s.selected (takeTurn s)) with ⟨-, h⟩ | ⟨r, -, hlost, h⟩
  · rw [h, hturn]
    exact ⟨air, _, _, s.holds, s.drive, hsample, rfl, fun _ => rfl, rfl⟩
  · rw [h]
    obtain ⟨-, -, hmode, -⟩ := linkLost_iff.1 hlost
    rw [hturn] at hmode ⊢
    generalize hv : (selectPredecessor s.selected
      { s with air, road := { s.road with turnSpacing := false }, spacing := s.turnedSpacing }) = v at hmode ⊢
    have hopen : (v.setSpacing { v.spacing with lostId := r.id }).stackClosed = false := by
      have hloading : v.loading = false := hv ▸ hload
      refine stackClosed_eq_false.2 ⟨hloading, ?_⟩
      by_contra hlock
      exact hmode (mode_eq_lockout_iff.2 ⟨hloading, hlock⟩)
    obtain ⟨air', d, hsample', hpush, hmeas, hdrive⟩ := pushHold_linkLoss hopen (some r.id)
    rw [hpush]
    subst hv
    exact ⟨air', _, _, _, d, hsample'.trans hsample, hmeas, hdrive, rfl⟩

theorem turnedSpacing_core (s : State) : s.turnedSpacing.core = s.spacing.core := by
  unfold State.turnedSpacing
  split <;> rfl

/-- What the stages before the speed reference leave. -/
theorem afterMembership_eq (hload : s.loading = false) :
    ∃ air x h d o, air.sample = s.air.sample ∧ d.vMeas = s.drive.vMeas ∧ (h.lockout = s.holds.lockout → d = s.drive) ∧
      x.vRef = s.spacing.vRef ∧ x.closeIn = s.spacing.closeIn ∧ x.stepTimer = s.spacing.stepTimer ∧ x.autoEntry = false ∧
      s.afterMembership = { s with
        air, road := { s.road with turnSpacing := false }, spacing := x, holds := h, drive := d, order := o } := by
  obtain ⟨air, p, lost, h, d, hsample, hmeas, hdrive, hb⟩ := beforeMembership_eq hload
  have hmove := membershipMove_membershipStage (s := s.beforeMembership) s.selected s.road.turnSpacing
  have hcore := hmove.core
  have heq := hmove.eq
  have hsample' := hmove.sample
  rw [hb] at hcore heq hsample'
  have hturned := turnedSpacing_core s
  simp only [SpacingUnit.core, State.setSpacing_spacing, Prod.mk.injEq] at hcore hturned
  obtain ⟨hv, hc, -, -, ha, ht⟩ := hcore
  obtain ⟨hv', hc', -, -, -, ht'⟩ := hturned
  rw [State.afterMembership, hb]
  refine ⟨_, _, h, d, _, ?_, hmeas, hdrive, ?_, ?_, ?_, ?_, heq⟩
  · exact hsample'.trans hsample
  · exact hv.trans hv'
  · exact hc.trans hc'
  · exact ht.trans ht'
  · exact ha

/-! ### The speed reference (R85 to R98) -/

/-- The drive and the counters after the close-in test of a step. -/
theorem referenceStage_eq (sel : Option PeerRecord) (s : State) :
    referenceStage sel s = { s with
      counters := if s.closeInRises sel = true then { s.counters with closeIn := bump s.counters.closeIn } else s.counters
      drive := if s.closeInRises sel = true then s.drive.kill else s.drive
      spacing := { s.spacing with
        vRef := s.nextVRef sel, closeIn := s.nextCloseIn sel
        braking := decide (s.nextVRef sel < s.spacing.vRef) || s.nextCloseIn sel ||
          decide ((if s.closeInRises sel = true then s.drive.kill else s.drive).applied.state = .brake) } } := by
  unfold referenceStage
  dsimp only
  cases s.closeInRises sel <;> rfl

theorem ite_kill_vMeas (rises : Bool) (d : DriveUnit) : (if rises = true then d.kill else d).vMeas = d.vMeas := by
  cases rises <;> rfl

/-! ### The step (R66) -/

/-- The state as the stages of a step find it: its timer started again, a free choice made, and the sample taken or not. -/
def State.atStep (s : State) (start : Time) (air : AirPort) : State :=
  { s with air, freeCount := s.freeCount + 1, spacing := { s.spacing with stepTimer := some (start + 20) } }

theorem atStep_selected {start : Time} {air : AirPort} : (s.atStep start air).selected = s.selected :=
  State.SameRoadAhead.selected (s := s) ⟨rfl, rfl, rfl, rfl, rfl, rfl⟩

/-- A sample that reports this state, BRAKING as it stands before the step or after it (R40, R98). -/
def State.SampledAs (s : State) (sample : StepSample) (after : Bool) : Prop :=
  sample.front = s.road.posUm / 1000 ∧ sample.direction = s.road.direction ∧ sample.quality = s.road.quality ∧
    sample.speed = s.drive.vMeas ∧ sample.time = s.time ∧ (sample.braking = s.spacing.braking ∨ sample.braking = after)

theorem spacingStages_sample (hload : s.loading = false) : (spacingStages s).air.sample = s.air.sample := by
  obtain ⟨air, x, h, d, o, hsample, -, -, -, -, -, -, hm⟩ := afterMembership_eq hload
  rw [spacingStages_eq, referenceStage_eq, hm]
  exact hsample

/-- One step: the stages on the state at the step, with the sample taken at the same expiry. -/
theorem exec_spacingStep_stages {start : Time} (hload : s.loading = false) (hlock : s.holds.lockout ≠ .config)
    (htimer : s.spacing.stepTimer = some start) (hran : 20 ≤ (s.time - start).toNat) :
    ∃ air air', exec .spacingStep s = .next (settleLamps ((spacingStages (s.atStep start air)).setAir air')) ∧
      ∃ sample, air'.sample = some sample ∧ s.SampledAs sample (spacingStages (s.atStep start air)).spacing.braking := by
  have hexec := exec_spacingStep_of_due s (stepDue_of_ran s hload hlock htimer hran)
  have hagain : s.spacing.stepTimer.again 20 = some (start + 20) := by
    rw [htimer]
    rfl
  rw [hagain] at hexec
  rcases spacingStep_cases (s.setSpacing { s.spacing with stepTimer := some (start + 20) }) with h | h
  · refine ⟨{ s.air with sample := some s.sampleNow }, _, hexec.trans (next_congr h), s.sampleNow, ?_,
      rfl, rfl, rfl, rfl, rfl, .inl rfl⟩
    exact spacingStages_sample (s := s.atStep start { s.air with sample := some s.sampleNow }) hload
  · refine ⟨s.air, _, hexec.trans (next_congr h), (spacingStages (s.atStep start s.air)).sampleNow, rfl, ?_⟩
    obtain ⟨air, x, hh, d, o, -, hmeas, -, -, -, -, -, hm⟩ := afterMembership_eq (s := s.atStep start s.air) hload
    rw [spacingStages_eq, referenceStage_eq, hm]
    exact ⟨rfl, rfl, rfl, (ite_kill_vMeas _ _).trans hmeas, rfl, .inr rfl⟩

end Sys2Proof.Machine
end

section
/-!
PROOFS. SPACING_STEP: the turn, the frozen membership, the step sample, and the LINK_LOSS check (O40, O41).
-/

namespace Sys2Proof.Machine

variable {s t : State}

/-- The role, the convoy, the member index and the order record stand. -/
structure State.SameMembers (s t : State) : Prop where
  role : t.spacing.role = s.spacing.role
  convoyId : t.spacing.convoyId = s.spacing.convoyId
  memberIndex : t.spacing.memberIndex = s.spacing.memberIndex
  order : t.order = s.order

/-! ### A step that has taken a turn, and a frozen one -/

theorem runningMembership_turned (sel : Option PeerRecord) (s : State) : runningMembership sel true s = s := by
  unfold runningMembership
  split <;> rfl

theorem parkedMembership_turned (sel : Option PeerRecord) (auto : Bool) (s : State) :
    parkedMembership sel auto true s = s.setSpacing { s.spacing with wakeTimer := s.nextWakeTimer } := rfl

/-- Membership after a turn moves timers only (R75). -/
theorem membershipStage_turned (sel : Option PeerRecord) (s : State) :
    s.SameMembers (membershipStage sel true s) ∧
      (s.spacing.splitTimer = none → (membershipStage sel true s).spacing.splitTimer = none) := by
  unfold membershipStage
  simp only [runningMembership_turned, parkedMembership_turned, Bool.true_eq_false, and_false, if_false]
  repeat' split
  any_goals exact ⟨⟨rfl, rfl, rfl, rfl⟩, id⟩
  all_goals exact ⟨⟨rfl, rfl, rfl, rfl⟩, fun _ => rfl⟩

theorem membershipStage_frozen (sel : Option PeerRecord) (turned : Bool) (h : s.mode = .halt ∨ s.mode = .lockout) :
    membershipStage sel turned s = freezeMembership (s.setSpacing { s.spacing with autoEntry := false }) := by
  have hmode : (s.setSpacing { s.spacing with autoEntry := false }).mode = s.mode := rfl
  unfold membershipStage
  dsimp only
  rw [hmode]
  rcases h with h | h <;> rw [h]

/-! ### The LINK_LOSS push -/

/-- A push with room leaves an unreleased record of the cause, of this moment and with the peer named (R118, R119). -/
theorem pushHold_linkLoss_record (lost : Option Nat) (hopen : s.stackClosed = false)
    (hroom : s.holds.has .linkLoss = true ∨ s.holds.stack.length < 4) :
    (pushHold .linkLoss lost s).holds.lockout = s.holds.lockout ∧
      ∃ x ∈ (pushHold .linkLoss lost s).holds.stack,
        x.cause = .linkLoss ∧ x.released = false ∧ x.lostId = lost ∧ x.pushedAt = s.time := by
  rcases pushHold_holds_drive s .linkLoss lost with ⟨hclosed, -, -⟩ | ⟨-, hhas, hh, -⟩ | ⟨-, -, -, hh, -⟩ |
    ⟨-, hnew, hfull, -, -⟩
  · exact absurd (hopen.symm.trans hclosed) (by decide)
  · obtain ⟨r, hr, hcause⟩ := has_iff.1 hhas
    rw [hh]
    exact ⟨rfl, r.revived s.time lost, List.mem_map.2 ⟨r, hr, if_pos hcause⟩, hcause, rfl, if_pos hcause, rfl⟩
  · rw [hh]
    exact ⟨rfl, newHold .linkLoss lost s, List.mem_cons_self, rfl, rfl, rfl, rfl⟩
  · rw [hnew] at hroom
    exact absurd (hroom.resolve_left nofun) (not_lt.2 hfull)

theorem pushHold_linkLoss_overruns (lost : Option Nat) (hopen : s.stackClosed = false) (hnew : s.holds.has .linkLoss = false)
    (hfull : 4 ≤ s.holds.stack.length) :
    (pushHold .linkLoss lost s).holds = { s.holds with lockout := .holdOverrun } := by
  rcases pushHold_holds_drive s .linkLoss lost with ⟨hclosed, -, -⟩ | ⟨-, hhas, -, -⟩ | ⟨-, -, hroom, -, -⟩ | ⟨-, -, -, hh, -⟩
  · exact absurd (hopen.symm.trans hclosed) (by decide)
  · exact absurd (hnew.symm.trans hhas) (by decide)
  · exact absurd hroom (not_lt.2 hfull)
  · exact hh

theorem pushHold_linkLoss_mode (lost : Option Nat) (hopen : s.stackClosed = false) :
    (pushHold .linkLoss lost s).mode = .halt ∨ (pushHold .linkLoss lost s).mode = .lockout := by
  obtain ⟨hload, hlock⟩ := stackClosed_eq_false.1 hopen
  have hload' : (pushHold .linkLoss lost s).loading = false := by
    rw [pushHold_frame]
    exact hload
  by_cases hroom : s.holds.has .linkLoss = true ∨ s.holds.stack.length < 4
  · obtain ⟨hlock', x, hx, hcause, hrel, -⟩ := pushHold_linkLoss_record lost hopen hroom
    exact .inl (mode_of_unreleased (stackClosed_eq_false.2 ⟨hload', hlock'.trans hlock⟩) (by decide)
      (unreleased_iff.2 ⟨x, hx, hcause, hrel⟩))
  · obtain ⟨hnew, hfull⟩ := not_or.1 hroom
    refine .inr (mode_eq_lockout_iff.2 ⟨hload', ?_⟩)
    rw [pushHold_linkLoss_overruns lost hopen (Bool.not_eq_true _ ▸ hnew) (not_lt.1 hfull)]
    exact fun h => LockoutCause.noConfusion h

theorem takeTurn_linkLost (r : PeerRecord) :
    (selectPredecessor s.selected (takeTurn s)).linkLost r = s.linkLost r := by
  obtain ⟨air, -, hturn⟩ := takeTurn_eq s
  rw [hturn, Bool.eq_iff_iff, linkLost_iff, linkLost_iff]
  have hrole : s.turnedSpacing.role = .parked ↔ s.spacing.role = .parked := by
    unfold State.turnedSpacing
    split
    · dsimp only
      split <;> simp [*]
    · rfl
  have hlost : s.turnedSpacing.lostId = s.spacing.lostId := by
    unfold State.turnedSpacing
    split <;> rfl
  have hlockout : (selectPredecessor s.selected
      { s with air, road := { s.road with turnSpacing := false }, spacing := s.turnedSpacing }).mode = .lockout ↔
        s.mode = .lockout := mode_eq_lockout_iff.trans (mode_eq_lockout_iff (s := s)).symm
  rw [ne_eq, ne_eq, ne_eq, ne_eq, hlockout]
  show _ ∧ ¬s.turnedSpacing.role = _ ∧ _ ∧ ¬_ = s.turnedSpacing.lostId ↔ _
  rw [hrole, hlost]
  rfl

theorem stackClosed_of_linkLost (hload : s.loading = false) {r : PeerRecord} (hlost : s.linkLost r = true) :
    s.stackClosed = false := by
  obtain ⟨-, -, hmode, -⟩ := linkLost_iff.1 hlost
  refine stackClosed_eq_false.2 ⟨hload, ?_⟩
  by_contra hlock
  exact hmode (mode_eq_lockout_iff.2 ⟨hload, hlock⟩)

/-- With no loss to note, the stages before membership take the turn and the predecessor only. -/
theorem beforeMembership_of_kept (h : ∀ r, s.selected = some r → ¬s.linkLost r = true) :
    s.beforeMembership = selectPredecessor s.selected (takeTurn s) := by
  unfold State.beforeMembership
  rcases linkLossCheck_cases s.selected (selectPredecessor s.selected (takeTurn s)) with ⟨-, h'⟩ | ⟨r, hsel, hlost, -⟩
  · exact h'
  · rw [takeTurn_linkLost] at hlost
    exact absurd hlost (h r hsel)

/-- With a loss to note, they push LINK_LOSS on the stack as it stood. -/
theorem beforeMembership_of_lost (hload : s.loading = false) {r : PeerRecord} (hsel : s.selected = some r)
    (hlost : s.linkLost r = true) :
    ∃ v, v.holds = s.holds ∧ v.time = s.time ∧ v.spacing.lostId = r.id ∧ v.stackClosed = false ∧
      s.beforeMembership = pushHold .linkLoss (some r.id) v := by
  obtain ⟨air, -, hturn⟩ := takeTurn_eq s
  refine ⟨(selectPredecessor s.selected (takeTurn s)).setSpacing
    { (selectPredecessor s.selected (takeTurn s)).spacing with lostId := r.id }, ?_, ?_, rfl, ?_, ?_⟩
  · rw [hturn]
    rfl
  · rw [hturn]
    rfl
  · obtain ⟨-, hlock⟩ := stackClosed_eq_false.1 (stackClosed_of_linkLost hload hlost)
    rw [hturn]
    exact stackClosed_eq_false.2 ⟨hload, hlock⟩
  · rw [← takeTurn_linkLost] at hlost
    unfold State.beforeMembership
    rw [hsel] at hlost ⊢
    exact if_pos hlost

theorem afterMembership_holds (s : State) : s.afterMembership.holds = s.beforeMembership.holds ∧
    s.afterMembership.spacing.lostId = s.beforeMembership.spacing.lostId := by
  have hmove := membershipMove_membershipStage (s := s.beforeMembership) s.selected s.road.turnSpacing
  refine ⟨by rw [State.afterMembership, hmove.eq]; rfl, ?_⟩
  have hcore := hmove.core
  simp only [SpacingUnit.core, Prod.mk.injEq] at hcore
  obtain ⟨-, -, -, hlost, -⟩ := hcore
  exact hlost

theorem afterMembership_loading (hload : s.loading = false) : s.afterMembership.loading = false := by
  obtain ⟨air, x, h, d, o, -, -, -, -, -, -, -, hm⟩ := afterMembership_eq hload
  rw [hm]
  exact hload

/-! ### Membership at a turn, and frozen -/

theorem beforeMembership_order (hload : s.loading = false) : s.beforeMembership.order = s.order := by
  obtain ⟨air, p, lost, h, d, -, -, -, hb⟩ := beforeMembership_eq hload
  rw [hb]

/-- A turn makes a station that is not PARKED HEAD of its own convoy, and nothing in the step changes that (R75). -/
theorem afterMembership_of_turn (hload : s.loading = false) (hturn : s.road.turnSpacing = true) :
    s.afterMembership.spacing.role = (if s.spacing.role = .parked then .parked else .head) ∧
      s.afterMembership.spacing.convoyId = s.ownId ∧ s.afterMembership.spacing.memberIndex = 0 ∧
      s.afterMembership.spacing.splitTimer = none ∧ s.afterMembership.order = s.order := by
  have hspacing : s.turnedSpacing = { s.spacing with
      predecessor := none, role := if s.spacing.role = .parked then .parked else .head, convoyId := s.ownId
      memberIndex := 0, splitTimer := none, parkTimer := none, wakeTimer := none } := if_pos hturn
  obtain ⟨air, p, lost, h, d, -, -, -, hb⟩ := beforeMembership_eq hload
  obtain ⟨⟨hrole, hconvoy, hindex, horder⟩, hsplit⟩ := membershipStage_turned s.selected s.beforeMembership
  rw [State.afterMembership, hturn]
  rw [hb, hspacing] at hrole hconvoy hindex hsplit
  rw [hb, hspacing]
  rw [beforeMembership_order hload, hb, hspacing] at horder
  exact ⟨hrole, hconvoy, hindex, hsplit rfl, horder⟩

theorem beforeMembership_mode_of_frozen (hload : s.loading = false) (hturn : s.road.turnSpacing = false)
    (hmode : s.mode = .halt ∨ s.mode = .lockout) : s.beforeMembership.mode = .halt ∨ s.beforeMembership.mode = .lockout := by
  by_cases hlost : ∃ r, s.selected = some r ∧ s.linkLost r = true
  · obtain ⟨r, hsel, hlost⟩ := hlost
    obtain ⟨v, -, -, -, hopen, hb⟩ := beforeMembership_of_lost hload hsel hlost
    rw [hb]
    exact pushHold_linkLoss_mode _ hopen
  · rw [beforeMembership_of_kept fun r hsel h => hlost ⟨r, hsel, h⟩, takeTurn, if_neg (by rw [hturn]; decide)]
    exact hmode

/-- In HALT and LOCKOUT with no turn membership is frozen, its timers stopped (R79). -/
theorem afterMembership_of_frozen (hload : s.loading = false) (hturn : s.road.turnSpacing = false)
    (hmode : s.mode = .halt ∨ s.mode = .lockout) :
    s.SameMembers s.afterMembership ∧ s.afterMembership.spacing.splitTimer = none ∧
      s.afterMembership.spacing.parkTimer = none ∧ s.afterMembership.spacing.wakeTimer = none := by
  have hspacing : s.turnedSpacing = s.spacing := if_neg (by rw [hturn]; decide)
  obtain ⟨air, p, lost, h, d, -, -, -, hb⟩ := beforeMembership_eq hload
  rw [State.afterMembership, membershipStage_frozen _ _ (beforeMembership_mode_of_frozen hload hturn hmode), hb, hspacing]
  exact ⟨⟨rfl, rfl, rfl, rfl⟩, rfl, rfl, rfl⟩

/-- One step, through the state the speed reference finds. -/
theorem exec_spacingStep_reference {start : Time} (hload : s.loading = false) (hlock : s.holds.lockout ≠ .config)
    (htimer : s.spacing.stepTimer = some start) (hran : 20 ≤ (s.time - start).toNat) :
    ∃ air air', exec .spacingStep s =
      .next (settleLamps ((referenceStage s.selected (s.atStep start air).afterMembership).setAir air')) := by
  obtain ⟨air, air', hexec, -⟩ := exec_spacingStep_stages hload hlock htimer hran
  rw [spacingStages_eq, atStep_selected] at hexec
  exact ⟨air, air', hexec⟩

theorem referenceStage_mode (sel : Option PeerRecord) (s : State) : (referenceStage sel s).mode = s.mode := by
  rw [referenceStage_eq]
  rfl

end Sys2Proof.Machine

namespace Sys2Proof.Proofs
open Sys2Proof.Machine

/-- Settles O40: a turn is taken before membership and kept by it; HALT and LOCKOUT freeze it; the sample is that of the step. -/
theorem turnsAndFreezesSetMembership : Obligations.TurnsAndFreezesSetMembership := by
  unfold Obligations.TurnsAndFreezesSetMembership
  refine ⟨fun s start hload hlock htimer hran => ?_, fun s start hload hlock htimer hran => ?_⟩
  · obtain ⟨air, air', hexec⟩ := exec_spacingStep_reference hload hlock htimer hran
    obtain ⟨air₁, x, h, d, o, -, -, -, -, -, hstep, hauto, hm⟩ := afterMembership_eq (s := s.atStep start air) hload
    refine ⟨_, hexec, ?_, ?_, ?_, fun hturn => ?_, fun hturn hmode => ?_⟩
    · rw [referenceStage_eq, hm]
      exact hstep
    · rw [referenceStage_eq, hm]
      exact hauto
    · rw [referenceStage_eq, hm]
      rfl
    · have hafter := afterMembership_of_turn (s := s.atStep start air) hload hturn
      rw [referenceStage_eq]
      exact hafter
    · obtain ⟨hsame, hsplit, hpark, hwake⟩ := afterMembership_of_frozen (s := s.atStep start air) hload hturn hmode
      rw [referenceStage_eq]
      exact ⟨hsame.role, hsame.convoyId, hsame.memberIndex, hsplit, hpark, hwake, hsame.order⟩
  · obtain ⟨air, air', hexec, sample, hsample, hfront, hdir, hqual, hspeed, htime, hbraking⟩ :=
      exec_spacingStep_stages hload hlock htimer hran
    exact ⟨_, sample, hexec, hsample, hfront, hdir, hqual, hspeed, htime, hbraking⟩

/-- Settles O41: the LINK_LOSS check alone touches the stack, and only where the loss is to be noted. -/
theorem stalePredecessorsHaltTheRig : Obligations.StalePredecessorsHaltTheRig := by
  unfold Obligations.StalePredecessorsHaltTheRig
  intro s start hload hlock htimer hran lost
  obtain ⟨air, air', hexec⟩ := exec_spacingStep_reference hload hlock htimer hran
  obtain ⟨hholds, hid⟩ := afterMembership_holds (s.atStep start air)
  rw [referenceStage_eq] at hexec
  refine ⟨_, hexec, fun hkept => ?_, fun r hsel hlost => ?_⟩
  · have hb := beforeMembership_of_kept (s := s.atStep start air) fun r hsel hlost =>
      hkept r (atStep_selected.symm.trans hsel) (linkLost_iff.1 hlost)
    obtain ⟨air₁, -, hturn⟩ := takeTurn_eq (s.atStep start air)
    rw [hb, hturn] at hholds hid
    refine ⟨hholds, hid.trans ?_⟩
    show (s.atStep start air).turnedSpacing.lostId = _
    have hcore := turnedSpacing_core (s.atStep start air)
    simp only [SpacingUnit.core, Prod.mk.injEq] at hcore
    obtain ⟨-, -, -, hlostId, -⟩ := hcore
    exact hlostId
  · obtain ⟨v, hv, hvtime, hvlost, hopen, hb⟩ := beforeMembership_of_lost (s := s.atStep start air) hload
      (atStep_selected.trans hsel) (linkLost_iff.2 hlost)
    rw [hb] at hholds hid
    refine ⟨?_, fun hroom => ?_, fun hnew hfull => ?_⟩
    · refine hid.trans ?_
      rw [pushHold_spacing]
      exact hvlost
    · obtain ⟨hlock', x, hx, hcause, hrel, hpeer, hat⟩ := pushHold_linkLoss_record (some r.id) hopen (hv ▸ hroom)
      have hlockout := (stackClosed_eq_false.1 hopen).2
      refine ⟨?_, (congrArg HoldStack.lockout hholds).trans (hlock'.trans (congrArg HoldStack.lockout hv)), x, ?_, hcause, hrel,
        hpeer, hat.trans hvtime⟩
      · refine mode_of_unreleased (cause := .linkLoss) (stackClosed_eq_false.2 ⟨?_, ?_⟩) (by decide)
          (unreleased_iff.2 ⟨x, ?_, hcause, hrel⟩)
        · exact afterMembership_loading (s := s.atStep start air) hload
        · exact (congrArg HoldStack.lockout hholds).trans (hlock'.trans hlockout)
        · exact hholds.symm ▸ hx
      · exact hholds.symm ▸ hx
    · exact hholds.trans ((pushHold_linkLoss_overruns _ hopen (hv ▸ hnew) (hv ▸ hfull)).trans (by rw [hv]; rfl))

end Sys2Proof.Proofs
end

section
/-!
PROOFS. SPACING_STEP: membership behind the predecessor, parking and waking (O42).
-/

namespace Sys2Proof.Machine

variable {s t u : State}

/-! ### The state membership decides on -/

/-- The state as a role's membership finds it: the predecessor chosen, the AUTO entry taken, the park timer moved. -/
def State.atMembership (s : State) (p : Option Predecessor) (park : Running) : State :=
  s.setSpacing { s.spacing with predecessor := p, autoEntry := false, parkTimer := park }

theorem State.joinable_iff {r : PeerRecord} : s.joinable r = true ↔
    (r.mode = .head ∨ r.mode = .follow ∨ r.mode = .wait ∨ r.mode = .halt) ∧
      r.memberIndex < 15 ∧ 1 ≤ r.convoyId ∧ r.convoyId ≤ 30 ∧ r.convoyId ≠ s.ownId := by
  simp [State.joinable, and_assoc, or_assoc]

theorem State.wokenBy_iff {r : PeerRecord} : s.wokenBy r = true ↔
    s.joinable r = true ∧ r.mode ≠ .halt ∧ s.gapTo r ≤ s.cfg.gJoin := by
  have hmode (hj : s.joinable r = true) : (r.mode = .head ∨ r.mode = .follow) ∨ r.mode = .wait ↔ r.mode ≠ .halt := by
    obtain ⟨hm, -⟩ := State.joinable_iff.1 hj
    rcases hm with hm | hm | hm | hm <;> simp [hm]
  simp only [State.wokenBy, Bool.and_eq_true, Bool.or_eq_true, decide_eq_true_eq, and_assoc]
  exact and_congr_right fun hj => and_congr_left fun _ => hmode hj

theorem State.parksNow_iff : s.parksNow = true ↔
    s.spacing.vRef = 0 ∧ s.drive.vMeas = 0 ∧
      ∃ since, s.spacing.parkTimer = some since ∧ s.cfg.tPark ≤ (s.time - since).toNat := by
  simp [State.parksNow, State.atRest, ranFor_iff, and_assoc]

theorem State.wakeDriven_iff : s.wakeDriven = true ↔ s.handset.band = .drive ∧ s.cfg.vMax / 10 ≤ s.handset.throttle := by
  simp [State.wakeDriven]

theorem State.nextParkTimer_eq : s.nextParkTimer =
    if s.spacing.vRef = 0 ∧ s.drive.vMeas = 0 then some (s.spacing.parkTimer.getD s.time) else none := by
  have hrest : s.atRest = true ↔ s.spacing.vRef = 0 ∧ s.drive.vMeas = 0 := by simp [State.atRest]
  unfold State.nextParkTimer
  simp only [hrest]
  cases s.spacing.parkTimer <;> rfl

/-- A station whose mode is HEAD or FOLLOW has that role (R125). -/
theorem role_of_mode (h : s.mode = .head ∨ s.mode = .follow) : s.spacing.role.asMode = s.mode := by
  unfold State.mode deriveMode at h ⊢
  split at h
  · simp at h
  split at h
  · simp at h
  split at h
  · simp at h
  split at h
  · simp at h
  rw [if_neg ‹_›, if_neg ‹_›, if_neg ‹_›, if_neg ‹_›]

theorem asMode_injective {a b : Role} (h : a.asMode = b.asMode) : a = b := by
  cases a <;> cases b <;> simp [Role.asMode] at h ⊢

/-! ### What each move leaves -/

/-- The order part a join notice leaves depends on the lockout, the table and the order record alone. -/
theorem joinNotice_order_congr (id : Nat) (hmode : t.mode = .lockout ↔ s.mode = .lockout) (hpeers : t.peers = s.peers)
    (horder : t.order = s.order) : (joinNotice id t).order = (joinNotice id s).order := by
  unfold joinNotice
  simp only [hmode, hpeers, horder]
  repeat' split
  any_goals rfl
  exact horder

theorem noteModeChange_order (before : Mode) : (noteModeChange before s).order = s.order := by
  rw [noteModeChange_frame]
  rfl

theorem setMembership_order (x : SpacingUnit) : (s.setMembership x).order = s.order := noteModeChange_order _

theorem joinBehind_spacing (r : PeerRecord) (x : SpacingUnit) (s : State) : (joinBehind r x s).spacing =
    { x with role := .follow, convoyId := r.convoyId, memberIndex := r.memberIndex + 1, splitTimer := none } := by
  rw [joinBehind, joinNotice_spacing, setMembership_spacing]

theorem joinBehind_order (r : PeerRecord) (x : SpacingUnit) (s : State) :
    (joinBehind r x s).order = (joinNotice r.id s).order := by
  unfold joinBehind State.setMembership
  rw [noteModeChange_frame]
  exact joinNotice_order_congr (s := s) r.id (mode_eq_lockout_iff.trans (mode_eq_lockout_iff (s := s)).symm) rfl rfl

/-- The Spacing Unit of a station that goes with a record, the split timer as given. -/
theorem updateMembership_spacing (r : PeerRecord) (timer : Running) (s : State) : (updateMembership r timer s).spacing =
    { s.spacing with convoyId := r.convoyId, memberIndex := r.memberIndex + 1, splitTimer := timer } := by
  unfold updateMembership
  dsimp only
  split
  · rfl
  · rw [joinNotice_spacing]
    rfl

theorem updateMembership_order (r : PeerRecord) (timer : Running) (s : State) : (updateMembership r timer s).order =
    if r.convoyId = s.spacing.convoyId then s.order else (joinNotice r.id s).order := by
  unfold updateMembership
  dsimp only
  split
  · rfl
  · exact joinNotice_order_congr (s := s) r.id Iff.rfl rfl rfl

theorem splitOff_spacing (s : State) : (splitOff s).spacing =
    { s.spacing with role := .head, convoyId := s.ownId, memberIndex := 0, splitTimer := none } := setMembership_spacing s _

theorem wakeToHead_spacing (s : State) : (wakeToHead s).spacing =
    { s.spacing with role := .head, convoyId := s.ownId, memberIndex := 0, splitTimer := none, parkTimer := none,
                     wakeTimer := none } := setMembership_spacing s _

/-- A FOLLOW station splits off or goes with its predecessor. -/
theorem followMembership_some (r : PeerRecord) (s : State) :
    followMembership (some r) s = splitOff s ∨ ∃ timer, followMembership (some r) s = updateMembership r timer s := by
  unfold followMembership
  dsimp only
  repeat' split
  · exact .inl rfl
  · exact .inr ⟨_, rfl⟩
  · exact .inr ⟨_, rfl⟩
  · exact .inl rfl
  · exact .inr ⟨_, rfl⟩

/-- Membership of a running role does not touch the park timer. -/
theorem runningMembership_parkTimer (sel : Option PeerRecord) (s : State) :
    (runningMembership sel false s).spacing.parkTimer = s.spacing.parkTimer := by
  unfold runningMembership
  split
  · rw [if_neg (by decide)]
    unfold headMembership
    split
    · rfl
    · split
      · rw [joinBehind_spacing]
      · rfl
  · rw [if_neg (by decide)]
    cases sel with
    | none =>
      show (splitOff s).spacing.parkTimer = _
      rw [splitOff_spacing]
    | some r =>
      rcases followMembership_some r s with h | ⟨timer, h⟩
      · rw [h, splitOff_spacing]
      · rw [h, updateMembership_spacing]
  · rfl

/-- The three outcomes of the wake tests (R78). -/
theorem parkedMembership_cases (sel : Option PeerRecord) (auto : Bool) (s : State) :
    (∃ r, sel = some r ∧ s.wokenBy r = true ∧
      parkedMembership sel auto false s = joinBehind r { s.spacing with parkTimer := none, wakeTimer := none } s) ∨
    ((∀ r, sel = some r → ¬s.wokenBy r = true) ∧
      (auto = true ∨ (s.wakeDriven = true ∧ s.spacing.wakeTimer.ranFor s.time 500 = true)) ∧
      parkedMembership sel auto false s = wakeToHead s) ∨
    ((∀ r, sel = some r → ¬s.wokenBy r = true) ∧
      ¬(auto = true ∨ (s.wakeDriven = true ∧ s.spacing.wakeTimer.ranFor s.time 500 = true)) ∧
      parkedMembership sel auto false s = s.setSpacing { s.spacing with wakeTimer := s.nextWakeTimer }) := by
  unfold parkedMembership
  rw [if_neg (by decide)]
  cases hwaker : s.waker sel with
  | some r =>
    obtain ⟨hsel, hwoken⟩ := Option.filter_eq_some_iff.1 hwaker
    exact .inl ⟨r, hsel, hwoken, rfl⟩
  | none =>
    have hnone : ∀ r, sel = some r → ¬s.wokenBy r = true := fun r hsel hwoken => by
      simp [State.waker, hsel, hwoken] at hwaker
    dsimp only
    split
    · exact .inr (.inl ⟨hnone, .inl ‹_›, rfl⟩)
    split
    · exact .inr (.inl ⟨hnone, .inr ‹_›, rfl⟩)
    · exact .inr (.inr ⟨hnone, not_or.2 ⟨‹_›, ‹_›⟩, rfl⟩)

/-! ### Membership by the mode -/

/-- The predecessor this step chooses. -/
def State.chosen (s : State) : Option Predecessor := s.selected.map fun r => { id := r.id, gap := s.gapTo r }

section
variable (hturn : s.road.turnSpacing = false) (hcalm : ∀ r, s.selected = some r → ¬s.linkLost r = true)
include hturn hcalm

/-- With no turn and no loss, membership follows the choice of the predecessor. -/
theorem afterMembership_of_calm : s.afterMembership =
    match s.mode with
    | .halt | .lockout | .start => freezeMembership (s.atMembership s.chosen s.spacing.parkTimer)
    | .head | .follow =>
      if s.parksNow = true ∧ false = false then park (s.atMembership s.chosen s.spacing.parkTimer)
      else runningMembership s.selected false (s.atMembership s.chosen s.nextParkTimer)
    | .wait =>
      if s.spacing.role = .parked then
        parkedMembership s.selected s.spacing.autoEntry false (s.atMembership s.chosen none)
      else runningMembership s.selected false (s.atMembership s.chosen none)
    | .parked =>
      parkedMembership s.selected s.spacing.autoEntry false (s.atMembership s.chosen s.spacing.parkTimer) := by
  rw [State.afterMembership, hturn, beforeMembership_of_kept hcalm, takeTurn, if_neg (by rw [hturn]; decide)]
  rfl

theorem afterMembership_of_parks (hmode : s.mode = .head ∨ s.mode = .follow) (hparks : s.parksNow = true) :
    s.afterMembership = park (s.atMembership s.chosen s.spacing.parkTimer) := by
  rw [afterMembership_of_calm hturn hcalm]
  rcases hmode with h | h <;> rw [h] <;> exact if_pos ⟨hparks, rfl⟩

theorem afterMembership_of_running (hmode : s.mode = .head ∨ s.mode = .follow) (hparks : ¬s.parksNow = true) :
    s.afterMembership = runningMembership s.selected false (s.atMembership s.chosen s.nextParkTimer) := by
  rw [afterMembership_of_calm hturn hcalm]
  rcases hmode with h | h <;> rw [h] <;> exact if_neg fun hp => hparks hp.1

theorem afterMembership_of_wait (hmode : s.mode = .wait) :
    s.afterMembership =
      if s.spacing.role = .parked then
        parkedMembership s.selected s.spacing.autoEntry false (s.atMembership s.chosen none)
      else runningMembership s.selected false (s.atMembership s.chosen none) := by
  rw [afterMembership_of_calm hturn hcalm, hmode]

/-- A HEAD or a FOLLOW that does not park runs its own membership. -/
theorem afterMembership_of_role {role : Role} (hrole : role ≠ .parked)
    (h : (s.mode = role.asMode ∧ ¬s.parksNow = true) ∨ (s.mode = .wait ∧ s.spacing.role = role)) :
    s.spacing.role = role ∧ ∃ k, s.afterMembership = runningMembership s.selected false (s.atMembership s.chosen k) := by
  rcases h with ⟨hmode, hparks⟩ | ⟨hmode, hr⟩
  · have hrunning : s.mode = .head ∨ s.mode = .follow := by
      rw [hmode]
      cases role with
      | head => exact .inl rfl
      | follow => exact .inr rfl
      | parked => exact absurd rfl hrole
    exact ⟨asMode_injective ((role_of_mode hrunning).trans hmode), _, afterMembership_of_running hturn hcalm hrunning hparks⟩
  · exact ⟨hr, none, (afterMembership_of_wait hturn hcalm hmode).trans (if_neg (hr ▸ hrole))⟩

/-- A HEAD that does not park makes its join test. -/
theorem afterMembership_of_head
    (h : (s.mode = .head ∧ ¬s.parksNow = true) ∨ (s.mode = .wait ∧ s.spacing.role = .head)) :
    s.spacing.role = .head ∧ ∃ k, s.afterMembership = headMembership s.selected (s.atMembership s.chosen k) := by
  obtain ⟨hrole, k, hk⟩ := afterMembership_of_role (role := .head) hturn hcalm (by decide) h
  have hr : (s.atMembership s.chosen k).spacing.role = .head := hrole
  rw [runningMembership, hr] at hk
  exact ⟨hrole, k, hk⟩

/-- A FOLLOW that does not park goes with its predecessor or splits. -/
theorem afterMembership_of_follow
    (h : (s.mode = .follow ∧ ¬s.parksNow = true) ∨ (s.mode = .wait ∧ s.spacing.role = .follow)) :
    s.spacing.role = .follow ∧ ∃ k, s.afterMembership = followMembership s.selected (s.atMembership s.chosen k) := by
  obtain ⟨hrole, k, hk⟩ := afterMembership_of_role (role := .follow) hturn hcalm (by decide) h
  have hr : (s.atMembership s.chosen k).spacing.role = .follow := hrole
  rw [runningMembership, hr] at hk
  exact ⟨hrole, k, hk⟩

/-- A PARKED rig makes its wake tests. -/
theorem afterMembership_of_parked (hrole : s.spacing.role = .parked) (h : s.mode = .parked ∨ s.mode = .wait) :
    ∃ k, s.afterMembership = parkedMembership s.selected s.spacing.autoEntry false (s.atMembership s.chosen k) := by
  rcases h with hmode | hmode
  · exact ⟨_, by rw [afterMembership_of_calm hturn hcalm, hmode]⟩
  · exact ⟨none, (afterMembership_of_wait hturn hcalm hmode).trans (if_pos hrole)⟩

end

/-! ### The outcomes, in the words of the statement -/

/-- A FOLLOW behind this record. -/
def State.Behind (t : State) (r : PeerRecord) : Prop :=
  t.spacing.role = .follow ∧ t.spacing.convoyId = r.convoyId ∧ t.spacing.memberIndex = r.memberIndex + 1

/-- Alone in its own convoy, with the order it had. -/
def State.AloneAs (s t : State) (role : Role) : Prop :=
  t.spacing.role = role ∧ t.spacing.convoyId = s.ownId ∧ t.spacing.memberIndex = 0 ∧ t.spacing.splitTimer = none ∧
    t.order = s.order

section
variable (p : Option Predecessor) (k : Running) (r : PeerRecord)

theorem joinNotice_atMembership (id : Nat) : (joinNotice id (s.atMembership p k)).order = (joinNotice id s).order :=
  joinNotice_order_congr (s := s) id Iff.rfl rfl rfl

theorem splitOff_alone : s.AloneAs (splitOff (s.atMembership p k)) .head := by
  rw [State.AloneAs, splitOff_spacing]
  exact ⟨rfl, rfl, rfl, rfl, setMembership_order _⟩

theorem park_alone : s.AloneAs (park (s.atMembership p k)) .parked ∧
    (park (s.atMembership p k)).spacing.parkTimer = none ∧ (park (s.atMembership p k)).spacing.wakeTimer = none := by
  rw [State.AloneAs, park, setMembership_spacing]
  exact ⟨⟨rfl, rfl, rfl, rfl, setMembership_order _⟩, rfl, rfl⟩

theorem headMembership_joins (hj : s.joinable r = true) (hgap : s.gapTo r ≤ s.cfg.gJoin) :
    (headMembership (some r) (s.atMembership p k)).Behind r ∧
      (headMembership (some r) (s.atMembership p k)).spacing.splitTimer = none ∧
      (headMembership (some r) (s.atMembership p k)).order = (joinNotice r.id s).order := by
  have h : headMembership (some r) (s.atMembership p k) =
    joinBehind r (s.atMembership p k).spacing (s.atMembership p k) := if_pos ⟨hj, hgap⟩
  rw [h, State.Behind, joinBehind_spacing, joinBehind_order, joinNotice_atMembership]
  exact ⟨⟨rfl, rfl, rfl⟩, rfl, rfl⟩

theorem headMembership_stays {sel : Option PeerRecord}
    (h : ∀ r, sel = some r → ¬(s.joinable r = true ∧ s.gapTo r ≤ s.cfg.gJoin)) :
    s.SameMembers (headMembership sel (s.atMembership p k)) := by
  cases sel with
  | none => exact ⟨rfl, rfl, rfl, rfl⟩
  | some r =>
    have hstays : headMembership (some r) (s.atMembership p k) = s.atMembership p k := if_neg (h r rfl)
    rw [hstays]
    exact ⟨rfl, rfl, rfl, rfl⟩

theorem updateMembership_behind (hrole : s.spacing.role = .follow) (timer : Running) :
    (updateMembership r timer (s.atMembership p k)).Behind r ∧
      (updateMembership r timer (s.atMembership p k)).spacing.splitTimer = timer := by
  rw [State.Behind, updateMembership_spacing]
  exact ⟨⟨hrole, rfl, rfl⟩, rfl⟩

theorem followMembership_splits {sel : Option PeerRecord} (h : ∀ r, sel = some r → ¬s.joinable r = true) :
    followMembership sel (s.atMembership p k) = splitOff (s.atMembership p k) := by
  cases sel with
  | none => rfl
  | some r => exact if_pos (Bool.eq_false_iff.2 (h r rfl))

/-- A FOLLOW with a joinable predecessor, by the gap and the split timer (R73, R74). -/
theorem followMembership_joinable (hj : s.joinable r = true) :
    followMembership (some r) (s.atMembership p k) =
      if s.gapTo r ≤ s.cfg.gSplit then updateMembership r none (s.atMembership p k)
      else if s.spacing.splitTimer = none then updateMembership r (some s.time) (s.atMembership p k)
      else if s.spacing.splitTimer.ranFor s.time s.cfg.tSplit then splitOff (s.atMembership p k)
      else updateMembership r s.spacing.splitTimer (s.atMembership p k) :=
  if_neg (ne_of_eq_of_ne hj (by decide))

theorem followMembership_order (hfollows : (followMembership (some r) (s.atMembership p k)).spacing.role = .follow) :
    (followMembership (some r) (s.atMembership p k)).order =
      if r.convoyId = s.spacing.convoyId then s.order else (joinNotice r.id s).order := by
  rcases followMembership_some r (s.atMembership p k) with h | ⟨timer, h⟩
  · rw [h, splitOff_spacing] at hfollows
    exact absurd hfollows (show ¬Role.head = Role.follow by decide)
  · rw [h, updateMembership_order, joinNotice_atMembership]
    rfl

theorem wakeToHead_alone : s.AloneAs (wakeToHead (s.atMembership p k)) .head ∧
    (wakeToHead (s.atMembership p k)).spacing.wakeTimer = none ∧
    (wakeToHead (s.atMembership p k)).spacing.parkTimer = none := by
  rw [State.AloneAs, wakeToHead_spacing]
  exact ⟨⟨rfl, rfl, rfl, rfl, setMembership_order _⟩, rfl, rfl⟩

theorem parkedMembership_parkTimer (sel : Option PeerRecord) (auto : Bool) :
    (parkedMembership sel auto false (s.atMembership p none)).spacing.parkTimer = none := by
  rcases parkedMembership_cases sel auto (s.atMembership p none) with ⟨r, -, -, h⟩ | ⟨-, -, h⟩ | ⟨-, -, h⟩ <;> rw [h]
  · rw [joinBehind_spacing]
  · rw [wakeToHead_spacing]
  · rfl

end

section
variable (hturn : s.road.turnSpacing = false) (hcalm : ∀ r, s.selected = some r → ¬s.linkLost r = true)
include hturn hcalm

theorem afterMembership_parks (hmode : s.mode = .head ∨ s.mode = .follow) (hparks : s.parksNow = true) :
    s.AloneAs s.afterMembership .parked ∧ s.afterMembership.spacing.parkTimer = none ∧
      s.afterMembership.spacing.wakeTimer = none := by
  rw [afterMembership_of_parks hturn hcalm hmode hparks]
  exact park_alone _ _

theorem afterMembership_parkTimer (hmode : s.mode = .head ∨ s.mode = .follow) (hparks : ¬s.parksNow = true) :
    s.afterMembership.spacing.parkTimer = s.nextParkTimer := by
  rw [afterMembership_of_running hturn hcalm hmode hparks]
  exact runningMembership_parkTimer _ _

theorem afterMembership_parkTimer_of_wait (hmode : s.mode = .wait) : s.afterMembership.spacing.parkTimer = none := by
  rw [afterMembership_of_wait hturn hcalm hmode]
  split
  · exact parkedMembership_parkTimer _ _ _
  · exact runningMembership_parkTimer _ _

/-- A HEAD joins a joinable predecessor within G_join, and stands otherwise (R72). -/
theorem afterMembership_head
    (h : (s.mode = .head ∧ ¬s.parksNow = true) ∨ (s.mode = .wait ∧ s.spacing.role = .head)) :
    (∀ r, s.selected = some r → s.joinable r = true → s.gapTo r ≤ s.cfg.gJoin →
      s.afterMembership.Behind r ∧ s.afterMembership.spacing.splitTimer = none ∧
        s.afterMembership.order = (joinNotice r.id s).order) ∧
    ((∀ r, s.selected = some r → ¬(s.joinable r = true ∧ s.gapTo r ≤ s.cfg.gJoin)) → s.SameMembers s.afterMembership) := by
  obtain ⟨-, k, hm⟩ := afterMembership_of_head hturn hcalm h
  rw [hm]
  refine ⟨fun r hr hj hgap => ?_, headMembership_stays _ _⟩
  rw [hr]
  exact headMembership_joins _ _ r hj hgap

/-- A FOLLOW goes with its predecessor, the split timer by the gap, or splits (R73, R74). -/
theorem afterMembership_follow
    (h : (s.mode = .follow ∧ ¬s.parksNow = true) ∨ (s.mode = .wait ∧ s.spacing.role = .follow)) :
    ((∀ r, s.selected = some r → ¬s.joinable r = true) → s.AloneAs s.afterMembership .head) ∧
    (∀ r, s.selected = some r → s.joinable r = true →
      (s.gapTo r ≤ s.cfg.gSplit → s.afterMembership.Behind r ∧ s.afterMembership.spacing.splitTimer = none) ∧
      (s.cfg.gSplit < s.gapTo r →
        (s.spacing.splitTimer = none → s.afterMembership.Behind r ∧ s.afterMembership.spacing.splitTimer = some s.time) ∧
        (s.spacing.splitTimer ≠ none → ¬s.spacing.splitTimer.ranFor s.time s.cfg.tSplit = true →
          s.afterMembership.Behind r ∧ s.afterMembership.spacing.splitTimer = s.spacing.splitTimer) ∧
        (s.spacing.splitTimer.ranFor s.time s.cfg.tSplit = true → s.AloneAs s.afterMembership .head))) ∧
    (∀ r, s.selected = some r → s.afterMembership.spacing.role = .follow →
      s.afterMembership.order = if r.convoyId = s.spacing.convoyId then s.order else (joinNotice r.id s).order) := by
  obtain ⟨hrole, k, hm⟩ := afterMembership_of_follow hturn hcalm h
  rw [hm]
  refine ⟨fun hnone => ?_, fun r hr hj => ?_, fun r hr hfollows => ?_⟩
  · rw [followMembership_splits _ _ hnone]
    exact splitOff_alone _ _
  · rw [hr, followMembership_joinable _ _ r hj]
    refine ⟨fun hgap => ?_, fun hgap => ⟨fun htimer => ?_, fun htimer hran => ?_, fun hran => ?_⟩⟩
    · rw [if_pos hgap]
      exact updateMembership_behind _ _ r hrole none
    · rw [if_neg (not_le.2 hgap), if_pos htimer]
      exact updateMembership_behind _ _ r hrole _
    · rw [if_neg (not_le.2 hgap), if_neg htimer, if_neg hran]
      exact updateMembership_behind _ _ r hrole _
    · have htimer : s.spacing.splitTimer ≠ none := fun h => by simp [h, Running.ranFor] at hran
      rw [if_neg (not_le.2 hgap), if_neg htimer, if_pos hran]
      exact splitOff_alone _ _
  · rw [hr] at hfollows ⊢
    exact followMembership_order _ _ r hfollows

/-- A PARKED rig wakes behind its predecessor, to HEAD, or stays (R78). -/
theorem afterMembership_parked (hrole : s.spacing.role = .parked) (hmode : s.mode = .parked ∨ s.mode = .wait) :
    (∀ r, s.selected = some r → s.wokenBy r = true → s.afterMembership.Behind r ∧
      s.afterMembership.spacing.wakeTimer = none ∧ s.afterMembership.spacing.parkTimer = none) ∧
    ((∀ r, s.selected = some r → ¬s.wokenBy r = true) →
      (s.spacing.autoEntry = true ∨ (s.wakeDriven = true ∧ s.spacing.wakeTimer.ranFor s.time 500 = true) →
        s.AloneAs s.afterMembership .head ∧ s.afterMembership.spacing.wakeTimer = none ∧
          s.afterMembership.spacing.parkTimer = none) ∧
      (¬(s.spacing.autoEntry = true ∨ (s.wakeDriven = true ∧ s.spacing.wakeTimer.ranFor s.time 500 = true)) →
        s.SameMembers s.afterMembership ∧ s.afterMembership.spacing.wakeTimer = s.nextWakeTimer)) := by
  obtain ⟨k, hm⟩ := afterMembership_of_parked hturn hcalm hrole hmode
  rw [hm]
  rcases parkedMembership_cases s.selected s.spacing.autoEntry (s.atMembership s.chosen k) with
    ⟨r, hsel, hwoken, h⟩ | ⟨hnone, hwakes, h⟩ | ⟨hnone, hstays, h⟩ <;> rw [h]
  · refine ⟨fun r' hsel' _ => ?_, fun hnone => absurd hwoken (hnone r hsel)⟩
    obtain rfl := Option.some.inj (hsel.symm.trans hsel')
    rw [State.Behind, joinBehind_spacing]
    exact ⟨⟨rfl, rfl, rfl⟩, rfl, rfl⟩
  · exact ⟨fun r hsel hwoken => absurd hwoken (hnone r hsel),
      fun _ => ⟨fun _ => wakeToHead_alone _ _, fun hstays => absurd hwakes hstays⟩⟩
  · exact ⟨fun r hsel hwoken => absurd hwoken (hnone r hsel),
      fun _ => ⟨fun hwakes => absurd hwakes hstays, fun _ => ⟨⟨rfl, rfl, rfl, rfl⟩, rfl⟩⟩⟩

end

end Sys2Proof.Machine

namespace Sys2Proof.Proofs
open Sys2Proof.Machine

/-- A station locked out for want of a configuration takes no step. -/
theorem exec_spacingStep_of_config {s : State} (hload : s.loading = false) (hlock : s.holds.lockout = .config) :
    ∃ t, exec .spacingStep s = .next t ∧ s.mode = .lockout := by
  have hdue : s.stepDue s.spacing.stepTimer ≠ true := by simp [State.stepDue, State.validConfig, hlock]
  exact ⟨s, if_neg hdue, mode_eq_lockout_iff.2 ⟨hload, by rw [hlock]; decide⟩⟩

/-- Settles O42: membership is decided by the mode and the role, each case by its own lemma. -/
theorem membershipFollowsThePredecessor : Obligations.MembershipFollowsThePredecessor := by
  unfold Obligations.MembershipFollowsThePredecessor
  intro s start hload htimer hran hturn hfresh joinable ranFor parks behind alone same
  by_cases hlock : s.holds.lockout = .config
  · obtain ⟨t, hexec, hmode⟩ := exec_spacingStep_of_config hload hlock
    refine ⟨t, hexec, ?_⟩
    simp [hmode]
  obtain ⟨air, air', hexec⟩ := exec_spacingStep_reference hload hlock htimer hran
  have hcalm : ∀ r, (s.atStep start air).selected = some r → ¬(s.atStep start air).linkLost r = true := by
    intro r hsel hlost
    obtain ⟨hstale, hrole, -, hid⟩ := linkLost_iff.1 hlost
    rcases hfresh r (atStep_selected.symm.trans hsel) with h | h | h
    · exact absurd hstale (not_lt.2 h)
    · exact hrole h
    · exact hid h
  have hjoinable (r : PeerRecord) : (s.atStep start air).joinable r = true ↔ joinable r := State.joinable_iff
  have hranFor (timer : Running) (period : Nat) : timer.ranFor s.time period = true ↔ ranFor timer period := ranFor_iff
  have hparks : (s.atStep start air).parksNow = true ↔ parks := State.parksNow_iff
  have hjoin (id : Nat) : (joinNotice id (s.atStep start air)).order = (joinNotice id s).order :=
    joinNotice_order_congr (s := s) id Iff.rfl rfl rfl
  have hsel : (s.atStep start air).selected = s.selected := atStep_selected
  rw [referenceStage_eq] at hexec
  refine ⟨_, hexec, fun hmode hp => ?_, fun hmode hp => ?_, fun hmode => ?_, fun h => ?_, fun h => ?_, fun hrole hmode => ?_⟩
  · exact afterMembership_parks (s := s.atStep start air) hturn hcalm hmode (hparks.2 hp)
  · exact (afterMembership_parkTimer (s := s.atStep start air) hturn hcalm hmode (mt hparks.1 hp)).trans State.nextParkTimer_eq
  · exact afterMembership_parkTimer_of_wait (s := s.atStep start air) hturn hcalm hmode
  · obtain ⟨hjoins, hstays⟩ := afterMembership_head (s := s.atStep start air) hturn hcalm
      (h.imp_left fun h => ⟨h.1, mt hparks.1 h.2⟩)
    refine ⟨fun r hr hj hgap => ?_, fun hnone => ?_⟩
    · obtain ⟨hbehind, hsplit, horder⟩ := hjoins r (hsel.trans hr) ((hjoinable r).2 hj) hgap
      exact ⟨hbehind, hsplit, horder.trans (hjoin r.id)⟩
    · obtain ⟨hr, hc, hi, ho⟩ := hstays fun r hr hboth =>
        (hnone r (hsel.symm.trans hr)).elim (fun h => h ((hjoinable r).1 hboth.1)) (fun h => absurd hboth.2 (not_le.2 h))
      exact ⟨hr, hc, hi, ho⟩
  · obtain ⟨hsplits, hjoins, horder⟩ := afterMembership_follow (s := s.atStep start air) hturn hcalm
      (h.imp_left fun h => ⟨h.1, mt hparks.1 h.2⟩)
    have hgoes (r : PeerRecord) (hr : s.selected = some r) (hj : joinable r) :=
      hjoins r (hsel.trans hr) ((hjoinable r).2 hj)
    refine ⟨fun hnone => ?_, fun r hr hj hgap => ?_, fun r hr hj hgap htimer => ?_, fun r since hr hj hgap htimer hran => ?_,
      fun r hr hj hgap hran => ?_, fun r hr hfollows => ?_⟩
    · exact hsplits fun r hr hj => hnone r (hsel.symm.trans hr) ((hjoinable r).1 hj)
    · obtain ⟨hnear, -⟩ := hgoes r hr hj
      exact hnear hgap
    · obtain ⟨-, hfar⟩ := hgoes r hr hj
      obtain ⟨hstarts, -, -⟩ := hfar hgap
      exact hstarts htimer
    · have hnot : ¬ranFor s.spacing.splitTimer s.cfg.tSplit := by
        rintro ⟨since', hsince, hran'⟩
        obtain rfl := Option.some.inj (htimer.symm.trans hsince)
        exact absurd hran' (not_le.2 hran)
      obtain ⟨-, hfar⟩ := hgoes r hr hj
      obtain ⟨-, hruns, -⟩ := hfar hgap
      obtain ⟨hbehind, hsplit⟩ :=
        hruns (show s.spacing.splitTimer ≠ none by simp [htimer]) (mt (hranFor _ _).1 hnot)
      exact ⟨hbehind, hsplit.trans htimer⟩
    · obtain ⟨-, hfar⟩ := hgoes r hr hj
      obtain ⟨-, -, hover⟩ := hfar hgap
      exact hover ((hranFor _ _).2 hran)
    · refine (horder r (hsel.trans hr) hfollows).trans ?_
      rw [hjoin]
      rfl
  · obtain ⟨hwakes, hother⟩ := afterMembership_parked (s := s.atStep start air) hturn hcalm hrole hmode
    intro wakes driven
    have hwoken (r : PeerRecord) : wakes r ↔ (s.atStep start air).selected = some r ∧ (s.atStep start air).wokenBy r = true := by
      rw [hsel, State.wokenBy_iff, hjoinable]
      exact Iff.rfl
    have hdriven : (s.atStep start air).wakeDriven = true ↔ driven := State.wakeDriven_iff
    have hnobody (h : ∀ r, ¬wakes r) := hother fun r hr hw => h r ((hwoken r).2 ⟨hr, hw⟩)
    refine ⟨fun r hw => ?_, fun hnone h => ?_, fun hnone hauto hnot => ?_⟩
    · exact hwakes r ((hwoken r).1 hw).1 ((hwoken r).1 hw).2
    · exact (hnobody hnone).1 (h.imp_right fun h => ⟨hdriven.2 h.1, (hranFor _ _).2 h.2⟩)
    · obtain ⟨⟨hr, hc, hi, ho⟩, hwake⟩ := (hnobody hnone).2 fun h => h.elim
        (fun h => absurd (hauto.symm.trans h) (by decide)) fun h => hnot ⟨hdriven.1 h.1, (hranFor _ _).1 h.2⟩
      refine ⟨⟨hr, hc, hi, ho⟩, hwake.trans ?_⟩
      unfold State.nextWakeTimer
      simp only [hdriven]
      exact rfl

end Sys2Proof.Proofs
end

section
/-!
PROOFS. SPACING_STEP: the spacing law, the rate limit, the close-in flag and BRAKING (O44).
-/

namespace Sys2Proof.Machine

variable {s t : State} {sel : Option PeerRecord}

/-! ### The close-in flag (R86, R89, R90) -/

theorem Quality.doubt_eq (q : Quality) : q.doubt = if q = .drift ∨ q = .poor then 1 else 0 := by
  cases q <;> rfl

theorem State.g0Eff_eq (s : State) (r : PeerRecord) : s.g0Eff r =
    s.cfg.g0 * (1 + (if r.quality = .drift ∨ r.quality = .poor then 1 else 0) +
      (if s.road.quality = .drift ∨ s.road.quality = .poor then 1 else 0)) := by
  rw [State.g0Eff, Quality.doubt_eq, Quality.doubt_eq]

theorem closeInRises_iff : s.closeInRises sel = true ↔
    ∃ r, sel = some r ∧ s.spacing.closeIn = false ∧ s.gapTo r < ((s.g0Eff r / 2 : Nat) : Int) := by
  cases sel with
  | none => simp [State.closeInRises]
  | some r => simp [State.closeInRises]

theorem closeInStays_iff : s.closeInStays sel = true ↔
    ∃ r, sel = some r ∧ s.spacing.closeIn = true ∧ s.gapTo r < ((s.g0Eff r : Nat) : Int) := by
  cases sel with
  | none => simp [State.closeInStays]
  | some r => simp [State.closeInStays]

theorem nextCloseIn_iff : s.nextCloseIn sel = true ↔ s.closeInRises sel = true ∨ s.closeInStays sel = true := Bool.or_eq_true_iff

/-- The flag rises where it is set by this step and was clear. -/
theorem closeInRises_iff_next : s.closeInRises sel = true ↔ s.nextCloseIn sel = true ∧ s.spacing.closeIn = false := by
  rw [nextCloseIn_iff]
  constructor
  · intro h
    obtain ⟨-, -, hclear, -⟩ := closeInRises_iff.1 h
    exact ⟨.inl h, hclear⟩
  · rintro ⟨h | h, hclear⟩
    · exact h
    · obtain ⟨-, -, hset, -⟩ := closeInStays_iff.1 h
      exact absurd (hclear.symm.trans hset) (by decide)

/-! ### The rate limit (R96) -/

/-- V_ref moves toward the target by one step at most, and not below 0. -/
theorem rateLimited_eq (c : WorkingConfig) (old : Nat) (target : Int) : (rateLimited c old target : Int) =
    max (max 0 ((old : Int) - speedStep c.aDn)) (min ((old : Int) + speedStep c.aUp) target) := by
  unfold rateLimited clampInt
  omega

theorem rateLimited_zero_le (c : WorkingConfig) (old : Nat) : rateLimited c old 0 ≤ old := by
  have h := rateLimited_eq c old 0
  omega

/-! ### V_target (R85 to R95) -/

/-- The terms that apply, of which V_target is the smallest. -/
def State.targetTerms (s : State) (sel : Option PeerRecord) : List Int :=
  [(s.baseSpeed : Int), (s.speedCap : Int)] ++ (sel.map s.lawSpeed).toList ++ (s.stopDistance.map (stopSpeed s.cfg)).toList

theorem stopSpeed_nonneg (c : WorkingConfig) (gs : Int) : 0 ≤ stopSpeed c gs := by
  unfold stopSpeed truncDiv
  split
  · exact le_rfl
  · exact Int.tdiv_nonneg (mul_nonneg (by omega) (Int.natCast_nonneg _)) (by decide)

theorem targetTerms_nonneg {x : Int} (hx : x ∈ s.targetTerms sel) : 0 ≤ x := by
  simp only [State.targetTerms, List.mem_append, List.mem_cons, List.not_mem_nil, or_false, Option.mem_toList,
    Option.map_eq_some_iff] at hx
  rcases hx with ((rfl | rfl) | ⟨r, -, rfl⟩) | ⟨gs, -, rfl⟩
  · exact Int.natCast_nonneg _
  · exact Int.natCast_nonneg _
  · exact le_max_left _ _
  · exact stopSpeed_nonneg _ _

/-- `m` is the smallest of the terms `l`. -/
def LeastOf (l : List Int) (m : Int) : Prop := m ∈ l ∧ ∀ x ∈ l, m ≤ x

theorem LeastOf.pair (a b : Int) : LeastOf [a, b] (min a b) := by
  refine ⟨?_, by simp⟩
  rcases min_choice a b with h | h <;> simp [h]

theorem LeastOf.snoc {l : List Int} {m : Int} (h : LeastOf l m) (y : Int) : LeastOf (l ++ [y]) (min m y) := by
  obtain ⟨hmem, hle⟩ := h
  refine ⟨?_, fun x hx => ?_⟩
  · rcases min_choice m y with h | h <;> simp [h, hmem]
  · rcases List.mem_append.1 hx with hx | hx
    · exact (min_le_left _ _).trans (hle x hx)
    · obtain rfl := List.mem_singleton.1 hx
      exact min_le_right _ _

/-- The computed target is the smallest of the terms. -/
theorem computedTarget_least (s : State) (sel : Option PeerRecord) : LeastOf (s.targetTerms sel) (s.computedTarget sel) := by
  obtain ⟨m, hleast, hm⟩ : ∃ m, LeastOf (s.targetTerms sel) m ∧ s.computedTarget sel = max 0 m := by
    have hpair := LeastOf.pair s.baseSpeed s.speedCap
    unfold State.computedTarget State.targetTerms
    cases sel with
    | none =>
      cases s.stopDistance with
      | none => exact ⟨_, hpair, rfl⟩
      | some gs => exact ⟨_, hpair.snoc _, rfl⟩
    | some r =>
      cases s.stopDistance with
      | none => exact ⟨_, hpair.snoc _, rfl⟩
      | some gs => exact ⟨_, (hpair.snoc _).snoc _, rfl⟩
  rw [hm, max_eq_right (targetTerms_nonneg hleast.1)]
  exact hleast

theorem forcesStop_iff {m : Mode} : m.forcesStop = true ↔ m = .start ∨ m = .parked ∨ m = .halt ∨ m = .lockout := by
  cases m <;> simp [Mode.forcesStop]

theorem target_of_stopped (h : s.mode.forcesStop = true) : s.target sel = 0 := if_pos h

theorem target_of_running (h : ¬s.mode.forcesStop = true) : s.target sel = s.computedTarget sel := if_neg h

/-! ### V_ref (R89, R90, R96, R97) -/

theorem nextVRef_of_killed (h : s.nextCloseIn sel = true ∨ s.holds.unreleased .obstruction = true) : s.nextVRef sel = 0 :=
  if_pos (Bool.or_eq_true_iff.2 h)

theorem nextVRef_of_free (hclose : s.nextCloseIn sel = false) (hfree : s.holds.unreleased .obstruction = false) :
    s.nextVRef sel = rateLimited s.cfg s.spacing.vRef (s.target sel) := by
  rw [State.nextVRef, hclose, hfree]
  rfl

theorem nextVRef_of_stopped (h : s.mode.forcesStop = true) : s.nextVRef sel ≤ s.spacing.vRef := by
  unfold State.nextVRef
  split
  · exact Nat.zero_le _
  · rw [target_of_stopped h]
    exact rateLimited_zero_le _ _

/-! ### The law, read from the state before the step -/

theorem stopTerm_eq (s : State) : s.stopDistance.map (stopSpeed s.cfg) =
    match s.narrowAhead with
    | none => none
    | some i =>
      if (s.narrowRecord i).relation = .holding then none
      else (s.cfg.narrows[i]?).map fun e =>
        let distance : Int := match s.road.direction with
          | .up => (e.lo : Int) - s.cfg.dStop - s.front
          | .down => (s.front : Int) - (e.hi + s.cfg.dStop)
        if distance ≤ 0 then 0 else (distance * s.cfg.kg).tdiv 64 := by
  unfold State.stopDistance
  cases s.narrowAhead with
  | none => rfl
  | some i =>
    dsimp only
    cases s.cfg.narrows[i]? with
    | none => simp
    | some e =>
      by_cases hheld : (s.narrowRecord i).relation = .holding
      · dsimp only
        rw [if_pos hheld, if_pos hheld]
        rfl
      · dsimp only
        rw [if_neg hheld, if_neg hheld]
        cases s.road.direction <;> rfl

theorem lawSpeed_eq (s : State) (r : PeerRecord) : s.lawSpeed r =
    max 0 ((r.speed : Int) + (min 2000 (max (-2000)
      (s.gapTo r - ((s.g0Eff r + s.cfg.th * s.drive.vMeas / 1000 : Nat) : Int))) * s.cfg.kg).tdiv 64) := rfl

theorem baseSpeed_eq (s : State) : (s.baseSpeed : Int) =
    match s.spacing.role with
    | .head => if s.handset.band = .drive then (s.handset.throttle : Int) else s.cfg.vCruise
    | .follow => s.cfg.vMax
    | .parked => 0 := by
  unfold State.baseSpeed
  cases s.spacing.role with
  | head => exact apply_ite _ _ _ _
  | follow => rfl
  | parked => rfl

/-- What membership leaves of the terms: all but the base speed, which reads the role (R93). -/
structure State.SameLaw (s t : State) : Prop where
  road : s.SameRoadAhead t
  narrow : t.narrow = s.narrow
  handset : t.handset = s.handset
  vMeas : t.drive.vMeas = s.drive.vMeas
  vRef : t.spacing.vRef = s.spacing.vRef
  closeIn : t.spacing.closeIn = s.spacing.closeIn

theorem afterMembership_sameLaw (hload : s.loading = false) : s.SameLaw s.afterMembership := by
  obtain ⟨air, x, h, d, o, -, hmeas, -, hvref, hclose, -, -, hm⟩ := afterMembership_eq hload
  rw [hm]
  exact ⟨⟨rfl, rfl, rfl, rfl, rfl, rfl⟩, rfl, rfl, hmeas, hvref, hclose⟩

theorem State.SameLaw.g0Eff (h : s.SameLaw t) (r : PeerRecord) : t.g0Eff r = s.g0Eff r := by
  rw [State.g0Eff, State.g0Eff, h.road.cfg, h.road.quality]

theorem State.SameLaw.lawSpeed (h : s.SameLaw t) (r : PeerRecord) : t.lawSpeed r = s.lawSpeed r := by
  rw [lawSpeed_eq, lawSpeed_eq, h.road.gapTo, h.g0Eff, h.road.cfg, h.vMeas]

theorem State.SameLaw.stopDistance (h : s.SameLaw t) : t.stopDistance = s.stopDistance := by
  have hrecord (i : Nat) : t.narrowRecord i = s.narrowRecord i := by rw [State.narrowRecord, State.narrowRecord, h.narrow]
  have hahead : t.narrowAhead = s.narrowAhead := by
    rw [State.narrowAhead, State.narrowAhead, h.road.cfg, h.road.direction, h.road.front]
  simp only [State.stopDistance, hahead, hrecord, h.road.cfg, h.road.direction, h.road.front]

theorem State.SameLaw.speedCap (h : s.SameLaw t) : t.speedCap = s.speedCap := by
  simp only [State.speedCap, State.zoneCap, h.road.cfg, h.road.direction, h.road.front, h.road.quality]

theorem State.SameLaw.closeInRises (h : s.SameLaw t) (sel : Option PeerRecord) :
    t.closeInRises sel = true ↔ s.closeInRises sel = true := by
  simp only [closeInRises_iff, h.closeIn, h.road.gapTo, h.g0Eff]

theorem State.SameLaw.closeInStays (h : s.SameLaw t) (sel : Option PeerRecord) :
    t.closeInStays sel = true ↔ s.closeInStays sel = true := by
  simp only [closeInStays_iff, h.closeIn, h.road.gapTo, h.g0Eff]

theorem State.SameLaw.targetTerms (h : s.SameLaw t) (sel : Option PeerRecord) : t.targetTerms sel =
    [(t.baseSpeed : Int), (s.speedCap : Int)] ++ (sel.map s.lawSpeed).toList ++
      (s.stopDistance.map (stopSpeed s.cfg)).toList := by
  rw [State.targetTerms, h.speedCap, h.stopDistance, h.road.cfg, funext h.lawSpeed]

end Sys2Proof.Machine

namespace Sys2Proof.Proofs
open Sys2Proof.Machine

/-- Settles O44: the reference stage, on what membership leaves, obeys the law of the state before the step. -/
theorem speedReferenceObeysTheLaw : Obligations.SpeedReferenceObeysTheLaw := by
  unfold Obligations.SpeedReferenceObeysTheLaw
  intro s start hload hlock htimer hran
  obtain ⟨air, air', hexec⟩ := exec_spacingStep_reference hload hlock htimer hran
  have hlaw := afterMembership_sameLaw (s := s.atStep start air) hload
  obtain ⟨air₁, x, hh, d, o, -, hmeas, hdrive, hvref, hclose, -, -, hm⟩ := afterMembership_eq (s := s.atStep start air) hload
  rw [referenceStage_eq] at hexec
  refine ⟨_, hexec, ?_⟩
  generalize hmm : (s.atStep start air).afterMembership = m at hlaw hm
  intro c doubt g0 error law cap cap' base stop terms stopped rises stays up down old
  have hrises : m.closeInRises s.selected = true ↔ rises := by
    rw [hlaw.closeInRises, closeInRises_iff]
    simp only [State.g0Eff_eq]
    exact Iff.rfl
  have hstays : m.closeInStays s.selected = true ↔ stays := by
    rw [hlaw.closeInStays, closeInStays_iff]
    simp only [State.g0Eff_eq]
    exact Iff.rfl
  have hnext : m.nextCloseIn s.selected = true ↔ rises ∨ stays := nextCloseIn_iff.trans (or_congr hrises hstays)
  have hbase : (m.baseSpeed : Int) = base := by
    rw [baseSpeed_eq, hlaw.handset, hlaw.road.cfg]
    rfl
  have hlawSpeed : (s.atStep start air).lawSpeed = law := by
    funext r
    rw [lawSpeed_eq, State.g0Eff_eq]
    rfl
  have hstop : (s.atStep start air).stopDistance.map (stopSpeed s.cfg) = stop := stopTerm_eq (s.atStep start air)
  have hterms : m.targetTerms s.selected = terms := by
    rw [hlaw.targetTerms, hbase, hlawSpeed]
    exact congrArg (fun o : Option Int => [(base : Int), (cap' : Int)] ++ (s.selected.map law).toList ++ o.toList) hstop
  have hstopped : m.mode.forcesStop = true ↔ stopped := forcesStop_iff
  refine ⟨hnext, fun h => ?_, fun hclear hfree => ?_, ?_, fun h => ?_, ?_, fun h => ?_, fun h hkept => ?_,
    ?_, ?_, ?_, ?_, ?_, ?_, ?_, ?_⟩
  · exact nextVRef_of_killed h
  · refine ⟨m.target s.selected, fun h => target_of_stopped (hstopped.2 h), fun h => ?_, ?_⟩
    · have hleast := computedTarget_least m s.selected
      rw [hterms] at hleast
      rw [target_of_running (mt hstopped.1 h)]
      exact hleast
    · have hvref' := rateLimited_eq m.cfg m.spacing.vRef (m.target s.selected)
      rw [← nextVRef_of_free hclear hfree, hlaw.vRef, hlaw.road.cfg] at hvref'
      exact hvref'
  · have hor (a b e : Bool) : (a || b || e) = true ↔ a = true ∨ b = true ∨ e = true := by simp [or_assoc]
    refine (hor _ _ _).trans ?_
    rw [decide_eq_true_iff, decide_eq_true_iff, hlaw.vRef]
    exact Iff.rfl
  · exact (nextVRef_of_stopped (hstopped.2 h)).trans hlaw.vRef.le
  · have hcounters : m.counters = s.counters := by rw [hm]; rfl
    have hfresh : m.closeInRises s.selected = true ↔ m.nextCloseIn s.selected = true ∧ s.spacing.closeIn = false := by
      rw [closeInRises_iff_next, hlaw.closeIn]
      exact Iff.rfl
    show (if m.closeInRises s.selected = true then _ else m.counters) = _
    rw [hcounters]
    exact if_congr hfresh rfl rfl
  · have hkill : (if m.closeInRises s.selected = true then m.drive.kill else m.drive) = m.drive.kill := if_pos (hrises.2 h)
    have hout : m.drive.kill.applied =
        if 0 < s.drive.vMeas then { state := .brake, duty := -1023 } else { state := .brakeHold, duty := 0 } := by
      show killOutput m.drive.vMeas = _
      rw [hlaw.vMeas]
      rfl
    rw [hkill]
    exact ⟨rfl, rfl, rfl, hout⟩
  · have hkeeps : (if m.closeInRises s.selected = true then m.drive.kill else m.drive) = m.drive := if_neg (mt hrises.1 h)
    refine hkeeps.trans ?_
    rw [hm] at hkept ⊢
    exact hdrive hkept
  all_goals
    rw [hm]
    rfl

end Sys2Proof.Proofs
end

section
/-!
PROOFS. The control step of the Narrow Unit, pass by pass: one relation at most stands, so each pass acts on one narrow; and what
the opposing records and the rig ahead show (R136 to R141).
-/

namespace Sys2Proof.Machine

variable {s t rd v : State}

/-! ### A pass that acts on one narrow -/

theorem foldl_fixed {σ α : Type} {f : σ → α → σ} {x : σ} {l : List α} (h : ∀ a ∈ l, f x a = x) : l.foldl f x = x :=
  foldl_keeps (P := fun y => y = x) rfl fun a ha _ hy => hy ▸ h a ha

/-- A pass that leaves the state for all but one element, before that element and after it, is the pass of that element. -/
theorem foldl_single {σ α : Type} {f : σ → α → σ} {x : σ} {l : List α} {a : α} (ha : a ∈ l) (hl : l.Nodup)
    (hbefore : ∀ b ∈ l, b ≠ a → f x b = x) (hafter : ∀ b ∈ l, b ≠ a → f (f x a) b = f x a) : l.foldl f x = f x a := by
  induction l with
  | nil => exact absurd ha List.not_mem_nil
  | cons c l ih =>
    obtain ⟨hc, hl⟩ := List.nodup_cons.1 hl
    have htail {b : α} (hb : b ∈ l) : b ∈ c :: l := List.mem_cons_of_mem c hb
    by_cases hca : c = a
    · subst hca
      exact foldl_fixed fun b hb => hafter b (htail hb) fun hbc => hc (hbc ▸ hb)
    · rw [List.foldl_cons, hbefore c List.mem_cons_self hca]
      exact ih ((List.mem_cons.1 ha).resolve_left (Ne.symm hca)) hl (fun b hb => hbefore b (htail hb))
        fun b hb => hafter b (htail hb)

theorem eachNarrow_fixed {f : Nat → State → State} (h : ∀ i < s.cfg.narrows.length, f i s = s) : eachNarrow f s = s :=
  foldl_fixed fun i hi => h i (mem_narrowIndices.1 hi)

theorem eachNarrow_single {f : Nat → State → State} {i : Nat} (hi : i < s.cfg.narrows.length)
    (hbefore : ∀ j, j ≠ i → f j s = s) (hafter : ∀ j, j ≠ i → f j (f i s) = f i s) : eachNarrow f s = f i s :=
  foldl_single (mem_narrowIndices.2 hi) List.nodup_range (fun j _ => hbefore j) fun j _ => hafter j

/-! ### What the stages read, over the writes of the stages -/

theorem State.SameOutsideHolds.cfg (h : s.SameOutsideHolds t) : t.cfg = s.cfg := by rw [State.cfg, State.cfg, h.config]

theorem State.SameOutsideHolds.front (h : s.SameOutsideHolds t) : t.front = s.front := by
  rw [State.front, State.front, h.road]

theorem State.SameOutsideHolds.rear (h : s.SameOutsideHolds t) : t.rear = s.rear := by
  rw [State.rear, State.rear, h.road, h.front]

theorem State.SameOutsideHolds.ownId (h : s.SameOutsideHolds t) : t.ownId = s.ownId := by
  rw [State.ownId, State.ownId, h.cfg]

theorem State.SameOutsideHolds.opposing (h : s.SameOutsideHolds t) : t.opposing = s.opposing := by
  rw [State.opposing, State.opposing, h.peers, h.time, h.road]

theorem State.SameOutsideHolds.opposingShows (h : s.SameOutsideHolds t) (i : Nat) (rel : Relation) :
    t.opposingShows i rel = s.opposingShows i rel := by
  rw [State.opposingShows, State.opposingShows, h.opposing]

/-! ### What the records show -/

theorem PeerRecord.relationWith_iff {r : PeerRecord} {i : Nat} {rel : Relation} (hrel : rel ≠ .none) :
    r.relationWith i = rel ↔ ∃ p, r.narrowPart = some p ∧ p.index = i ∧ p.relation = rel := by
  unfold PeerRecord.relationWith
  cases r.narrowPart with
  | none => simp [hrel.symm]
  | some p =>
    by_cases hi : p.index = i
    · simp [hi]
    · simp [hi, hrel.symm]

theorem State.opposing_eq (s : State) : s.opposing = s.peers.records.filter fun x =>
    decide ((s.time - x.stamp).toNat ≤ 3 * x.period) && decide (x.direction ≠ s.road.direction) := by
  refine List.filter_congr fun x _ => congrArg _ (decide_eq_decide.2 ?_)
  rw [opposite_iff, ne_comm]

theorem State.opposingShows_iff {i : Nat} {rel : Relation} (hrel : rel ≠ .none) : s.opposingShows i rel = true ↔
    ∃ x ∈ s.opposing, ∃ p, x.narrowPart = some p ∧ p.index = i ∧ p.relation = rel := by
  simp [State.opposingShows, PeerRecord.relationWith_iff hrel]

theorem State.opposingWaitsHigher_iff {i : Nat} : s.opposingWaitsHigher i = true ↔
    ∃ x ∈ s.opposing, ∃ p, x.narrowPart = some p ∧ p.index = i ∧ p.relation = .waiting ∧
      ((s.narrowRecord i).waitAge < p.waitAge ∨ (p.waitAge = (s.narrowRecord i).waitAge ∧ x.id < s.ownId)) := by
  have hage {x : PeerRecord} {p : NarrowPart} (h : x.narrowPart = some p) : x.narrowAge = p.waitAge := by
    rw [PeerRecord.narrowAge, h]
  simp only [State.opposingWaitsHigher, List.any_eq_true, Bool.and_eq_true, decide_eq_true_eq, higherPriority_iff,
    PeerRecord.relationWith_iff (rel := .waiting) (by decide)]
  refine exists_congr fun x => and_congr_right fun _ => ?_
  constructor
  · rintro ⟨⟨p, hp, hi, hw⟩, hhigher⟩
    exact ⟨p, hp, hi, hw, hage hp ▸ hhigher⟩
  · rintro ⟨p, hp, hi, hw, hhigher⟩
    exact ⟨⟨p, hp, hi, hw⟩, (hage hp).symm ▸ hhigher⟩

/-- The rig ahead, in the own convoy and direction, passes its claim on the narrow to a FOLLOW (R139). -/
def State.Inherits (s : State) (i : Nat) : Prop :=
  s.spacing.role = .follow ∧ ∃ x, s.predecessorRecord = some x ∧ (s.time - x.stamp).toNat ≤ 3 * x.period ∧
    x.direction = s.road.direction ∧ x.convoyId = s.spacing.convoyId ∧
    ∃ p, x.narrowPart = some p ∧ p.index = i ∧ p.relation = .holding

theorem State.inheritsFrom_iff {i : Nat} {x : PeerRecord} : s.inheritsFrom i x = true ↔
    (s.time - x.stamp).toNat ≤ 3 * x.period ∧ x.direction = s.road.direction ∧ x.convoyId = s.spacing.convoyId ∧
      ∃ p, x.narrowPart = some p ∧ p.index = i ∧ p.relation = .holding := by
  have hfresh : x.fresh s.time = true ↔ (s.time - x.stamp).toNat ≤ 3 * x.period := decide_eq_true_iff
  simp only [State.inheritsFrom, Bool.and_eq_true, decide_eq_true_eq, hfresh,
    PeerRecord.relationWith_iff (rel := .holding) (by decide), and_assoc]

theorem State.predecessorRecord_eq_some {x : PeerRecord} : s.predecessorRecord = some x ↔
    ∃ q, s.spacing.predecessor = some q ∧ s.peers.records.find? (fun x => decide (x.id = q.id)) = some x := by
  unfold State.predecessorRecord
  cases s.spacing.predecessor <;> simp

/-! ### Each stage for one narrow -/

theorem dropRelation_of_none {i : Nat} (h : s.relation i = .none) : dropRelation i s = s := if_pos h

theorem dropStage_of_none {i : Nat} (turned : Bool) (h : s.relation i = .none) : dropStage turned i s = s := by
  unfold dropStage
  split
  · rfl
  · rw [dropRelation_of_none h, ite_self]

theorem dropStage_eq {i : Nat} {e : NarrowEntry} (turned : Bool) (he : s.cfg.narrows[i]? = some e) : dropStage turned i s =
    if turned || hasLeft e s.road.direction s.rear || isFarBack s.cfg e s.road.direction s.front then dropRelation i s
    else s := by
  rw [dropStage, he]

/-- The stage of drops, where nothing is in relation. -/
theorem drops_of_free (turned : Bool) (h : ∀ i, s.relation i = .none) : eachNarrow (dropStage turned) s = s :=
  eachNarrow_fixed fun i _ => dropStage_of_none turned (h i)

/-- The stage of drops acts on the narrow that stands in relation (R137). -/
theorem drops_of_relation (turned : Bool) (hs : s.RelationsSound) {i : Nat} {e : NarrowEntry} (hi : s.relation i ≠ .none)
    (he : s.cfg.narrows[i]? = some e) : eachNarrow (dropStage turned) s =
      if turned || hasLeft e s.road.direction s.rear || isFarBack s.cfg e s.road.direction s.front then dropRelation i s
      else s := by
  obtain ⟨-, hone, -⟩ := relationsSound_iff.1 hs
  obtain ⟨-, hothers⟩ := hone i hi
  obtain ⟨hlt, -⟩ := List.getElem?_eq_some_iff.1 he
  rw [← dropStage_eq turned he]
  refine eachNarrow_single hlt (fun j hj => dropStage_of_none turned (hothers j hj)) fun j hj => dropStage_of_none turned ?_
  rw [dropStage_eq turned he]
  split
  · exact dropRelation_relation_none (hothers j hj)
  · exact hothers j hj

/-- A rig that is inside no narrow but one it holds has entered nothing unclaimed. -/
theorem unclaimedEntryStage_of_claimed {i : Nat}
    (h : ∀ e, s.cfg.enabledNarrow i = some e → isInside e s.road.direction s.front s.rear = true → s.relation i = .holding) :
    unclaimedEntryStage i s = s := by
  unfold unclaimedEntryStage
  split
  · rfl
  · rename_i e he
    exact if_neg fun hentry => hentry.2 (h e he hentry.1)

theorem phaseStage_of_settled {i : Nat} (h : s.relation i = .none ∨ s.relation i = .holding) : phaseStage i s = s := by
  unfold State.relation at h
  unfold phaseStage
  dsimp only
  split
  · rfl
  · rcases h with h | h <;> rw [h]

theorem phaseStage_of_lockout {i : Nat} (h : s.mode = .lockout) : phaseStage i s = s := if_pos h

theorem phaseStage_asking {i : Nat} (hrun : s.mode ≠ .lockout) (h : s.relation i = .asking) :
    phaseStage i s = if s.opposingShows i .holding = true then enterWaiting i s else s := by
  unfold State.relation at h
  unfold phaseStage
  dsimp only
  rw [if_neg hrun, h]

theorem phaseStage_deferred {i : Nat} (hrun : s.mode ≠ .lockout) (h : s.relation i = .waiting)
    (hphase : (s.narrowRecord i).phase = some .deferred) :
    phaseStage i s =
      if s.opposingShows i .holding || s.opposingShows i .asking || s.opposingWaitsHigher i then s else contestPhase i s := by
  unfold State.relation at h
  unfold phaseStage
  dsimp only
  rw [if_neg hrun, h, hphase]

theorem phaseStage_contesting {i : Nat} (hrun : s.mode ≠ .lockout) (h : s.relation i = .waiting)
    (hphase : (s.narrowRecord i).phase = some .contesting) :
    phaseStage i s = if s.opposingShows i .holding || s.opposingWaitsHigher i then deferPhase i s else s := by
  unfold State.relation at h
  unfold phaseStage
  dsimp only
  rw [if_neg hrun, h, hphase]

theorem phaseStage_no_phase {i : Nat} (h : s.relation i = .waiting) (hdef : (s.narrowRecord i).phase ≠ some .deferred)
    (hcon : (s.narrowRecord i).phase ≠ some .contesting) : phaseStage i s = s := by
  unfold State.relation at h
  unfold phaseStage
  dsimp only
  rw [h]
  split
  · rfl
  · split <;> simp_all

/-- The phase tests where nothing is ASKING or WAITING. -/
theorem phases_of_settled (h : ∀ i, s.relation i = .none ∨ s.relation i = .holding) : eachNarrow phaseStage s = s :=
  eachNarrow_fixed fun i _ => phaseStage_of_settled (h i)

theorem enterWaiting_relation_ne {i j : Nat} (hj : j ≠ i) : (enterWaiting i s).relation j = s.relation j := by
  by_cases hover : s.pushOverruns .narrowWait = true
  · exact relation_of_narrow_eq (enterWaiting_overruns hover) j
  · rw [relation_congr_records (enterWaiting_records (Bool.eq_false_iff.2 hover))]
    exact congrArg NarrowRecord.relation (narrowRecord_setNarrowRecord_ne s _ hj.symm)

theorem phaseStage_relation_ne {i j : Nat} (hj : j ≠ i) : (phaseStage i s).relation j = s.relation j := by
  have hset (r : NarrowRecord) : (s.setNarrowRecord i r).relation j = s.relation j :=
    congrArg NarrowRecord.relation (narrowRecord_setNarrowRecord_ne s _ hj.symm)
  unfold phaseStage
  dsimp only
  repeat' split
  · rfl
  · rfl
  · exact hset _
  · exact hset _
  · rfl
  · exact enterWaiting_relation_ne hj
  · rfl
  · rfl

/-- With one relation at most, the phase tests are the test of its narrow. -/
theorem phases_of_one {i : Nat} (hi : i < s.cfg.narrows.length) (h : ∀ j, j ≠ i → s.relation j = .none) :
    eachNarrow phaseStage s = phaseStage i s :=
  eachNarrow_single hi (fun j hj => phaseStage_of_settled (.inl (h j hj)))
    fun j hj => phaseStage_of_settled (.inl ((phaseStage_relation_ne hj).trans (h j hj)))

/-! ### Inheritance and claim (R139, R140) -/

theorem inheritStage_of_no_ahead (h : rd.narrowAhead = none) : inheritStage rd v = v := by
  rw [inheritStage, h]

theorem claimStage_of_no_ahead (h : rd.narrowAhead = none) : claimStage rd v = v := by
  rw [claimStage, h]

theorem inheritStage_of_ahead {i : Nat} (h : rd.narrowAhead = some i) :
    (rd.Inherits i → v.relation i = .none ∨ v.relation i = .asking → inheritStage rd v = enterHolding i true v) ∧
    (¬(rd.Inherits i ∧ (v.relation i = .none ∨ v.relation i = .asking)) → inheritStage rd v = v) := by
  unfold inheritStage State.Inherits
  rw [h]
  cases hp : rd.predecessorRecord with
  | none => exact ⟨fun ⟨_, x, hx, _⟩ => (nomatch hx), fun _ => rfl⟩
  | some x =>
    refine ⟨fun ⟨hrole, y, hy, hrest⟩ hrel => ?_, fun hnot => ?_⟩
    · obtain rfl := Option.some.inj hy
      exact if_pos ⟨hrel, hrole, State.inheritsFrom_iff.2 hrest⟩
    · exact if_neg fun ⟨hrel, hrole, hfrom⟩ => hnot ⟨⟨hrole, x, rfl, State.inheritsFrom_iff.1 hfrom⟩, hrel⟩

theorem claimStage_of_related {i : Nat} (h : rd.narrowAhead = some i) (hrel : v.relation i ≠ .none) : claimStage rd v = v := by
  rw [claimStage, h]
  exact if_neg fun hclaim => hrel hclaim.1

theorem claimStage_of_silent {i : Nat} (h : rd.narrowAhead = some i) (hno : ¬(rd.mode ≠ .parked ∧ rd.road.quality ≠ .unknown)) :
    claimStage rd v = v := by
  rw [claimStage, h]
  exact if_neg fun hclaim => hno ⟨hclaim.2.1, hclaim.2.2.2⟩

theorem claimStage_of_free {i : Nat} (h : rd.narrowAhead = some i) (hrel : v.relation i = .none) (hrun : rd.mode ≠ .lockout)
    (hclaims : rd.mode ≠ .parked ∧ rd.road.quality ≠ .unknown) :
    claimStage rd v =
      if rd.opposingShows i .holding || rd.opposingShows i .waiting then enterWaiting i v else enterAsking i v := by
  rw [claimStage, h]
  exact if_pos ⟨hrel, hclaims.1, hrun, hclaims.2⟩

end Sys2Proof.Machine
end

section
/-!
PROOFS. The control step of the Narrow Unit from the claim on: a narrow ahead that is inherited, claimed or left (R139 to R141).
-/

namespace Sys2Proof.Machine

variable {s t u rd v : State} {i : Nat}

/-! ### A change of one relation, and all it leaves -/

/-- The record of narrow `i` moved, with holds, bridge and beacon; the other records, the answers, the step timer and the
counters stand. -/
structure State.MovedAt (i : Nat) (s t : State) : Prop where
  outside : s.SameOutsideHolds t
  queue : t.narrow.queue = s.narrow.queue
  stepTimer : t.narrow.stepTimer = s.narrow.stepTimer
  counters : t.counters = s.counters
  length : t.narrow.records.length = s.narrow.records.length
  others : ∀ j, j ≠ i → t.narrow.records[j]? = s.narrow.records[j]?

theorem State.MovedAt.refl (i : Nat) (s : State) : s.MovedAt i s := ⟨.refl s, rfl, rfl, rfl, rfl, fun _ _ => rfl⟩

theorem State.MovedAt.trans (h : s.MovedAt i t) (h' : t.MovedAt i u) : s.MovedAt i u :=
  ⟨h.outside.trans h'.outside, h'.queue.trans h.queue, h'.stepTimer.trans h.stepTimer, h'.counters.trans h.counters,
    h'.length.trans h.length, fun j hj => (h'.others j hj).trans (h.others j hj)⟩

theorem State.MovedAt.record (h : s.MovedAt i t) {j : Nat} (hj : j ≠ i) : t.narrowRecord j = s.narrowRecord j := by
  simp only [State.narrowRecord, NarrowUnit.record, List.getD, h.others j hj]

theorem State.MovedAt.relation (h : s.MovedAt i t) {j : Nat} (hj : j ≠ i) : t.relation j = s.relation j :=
  congrArg NarrowRecord.relation (h.record hj)

/-- One record written, whatever else moves with it. -/
theorem movedAt_of_narrow {r : NarrowRecord} (hout : s.SameOutsideHolds t) (hcount : t.counters = s.counters)
    (h : t.narrow = (s.setNarrowRecord i r).narrow) : s.MovedAt i t := by
  refine ⟨hout, ?_, ?_, hcount, ?_, fun j hj => ?_⟩ <;> rw [h]
  · rfl
  · rfl
  · exact setNarrowRecord_length s i r
  · exact List.getElem?_set_ne hj.symm

theorem dropRelation_counters (i : Nat) (s : State) : (dropRelation i s).counters = s.counters := by
  rcases dropRelation_cases s i with ⟨-, h⟩ | ⟨-, h⟩ <;> rw [h]
  rw [beaconNowIf_frame]
  exact releaseWaitIf_counters _

theorem movedAt_dropRelation : s.MovedAt i (dropRelation i s) := by
  by_cases hrel : (s.narrowRecord i).relation = .none
  · rw [dropRelation, if_pos hrel]
    exact .refl i s
  · exact movedAt_of_narrow (dropRelation_outside i) (dropRelation_counters i s) (dropRelation_records s i hrel)

theorem enterHolding_counters (i : Nat) (inherited : Bool) (s : State) : (enterHolding i inherited s).counters = s.counters := by
  rw [enterHolding_frame]
  rfl

theorem movedAt_enterHolding (inherited : Bool) : s.MovedAt i (enterHolding i inherited s) :=
  movedAt_of_narrow (enterHolding_outside i inherited) (enterHolding_counters i inherited s)
    (enterHolding_records s i inherited)

theorem movedAt_enterAsking : s.MovedAt i (enterAsking i s) := movedAt_of_narrow (enterAsking_outside i) rfl rfl

theorem movedAt_setNarrowRecord (r : NarrowRecord) : s.MovedAt i (s.setNarrowRecord i r) :=
  movedAt_of_narrow (setNarrow_outside _) rfl rfl

theorem movedAt_enterWaiting : s.MovedAt i (enterWaiting i s) := by
  have hcount : (enterWaiting i s).counters = s.counters := by
    rw [enterWaiting_frame]
    rfl
  by_cases hover : s.pushOverruns .narrowWait = true
  · have hnarrow := enterWaiting_overruns (i := i) hover
    refine ⟨enterWaiting_outside i, ?_, ?_, hcount, ?_, fun j _ => ?_⟩ <;> rw [hnarrow]
  · have hroom := Bool.eq_false_iff.2 hover
    have hnarrow : (enterWaiting i s).narrow = { s.narrow with
        records := s.narrow.records.set i (s.narrowRecord i).toWaiting, waitAgeTimer := some s.time } := by
      rw [enterWaiting_of_room hroom, beaconNowIf_frame]
      rfl
    refine ⟨enterWaiting_outside i, ?_, ?_, hcount, ?_, fun j hj => ?_⟩ <;> rw [hnarrow]
    · exact List.length_set
    · exact List.getElem?_set_ne hj.symm

theorem movedAt_inheritStage (h : rd.narrowAhead = some i) : v.MovedAt i (inheritStage rd v) := by
  obtain ⟨htakes, hstays⟩ := inheritStage_of_ahead (v := v) h
  by_cases hinh : rd.Inherits i ∧ (v.relation i = .none ∨ v.relation i = .asking)
  · rw [htakes hinh.1 hinh.2]
    exact movedAt_enterHolding true
  · rw [hstays hinh]
    exact .refl i v

theorem movedAt_claimStage (h : rd.narrowAhead = some i) : v.MovedAt i (claimStage rd v) := by
  rw [claimStage, h]
  dsimp only
  repeat' split
  · exact movedAt_enterWaiting
  · exact movedAt_enterAsking
  · exact .refl i v

theorem movedAt_phaseStage : v.MovedAt i (phaseStage i v) := by
  unfold phaseStage
  dsimp only
  repeat' split
  · exact .refl i v
  · exact .refl i v
  · exact movedAt_setNarrowRecord _
  · exact movedAt_setNarrowRecord _
  · exact .refl i v
  · exact movedAt_enterWaiting
  · exact .refl i v
  · exact .refl i v

/-! ### What a claim leaves -/

theorem enterHolding_record (inherited : Bool) (hi : i < s.narrow.records.length) :
    (enterHolding i inherited s).narrowRecord i = (s.narrowRecord i).toHolding inherited := by
  rw [narrowRecord_congr (enterHolding_records s i inherited), narrowRecord_setNarrowRecord_self s _ hi]

theorem enterHolding_beaconNow (i : Nat) (inherited : Bool) (s : State) : (enterHolding i inherited s).air.beaconNow = true := rfl

theorem enterHolding_holds (inherited : Bool) (h : s.relation i ≠ .waiting) : (enterHolding i inherited s).holds = s.holds := by
  have hrel : (s.narrowRecord i).relation ≠ .waiting := h
  rw [enterHolding_eq, decide_eq_false hrel]
  rfl

theorem enterAsking_record (hi : i < s.narrow.records.length) :
    (enterAsking i s).narrowRecord i = (s.narrowRecord i).toAsking s.time :=
  narrowRecord_setNarrowRecord_self s _ hi

/-- A change into WAITING that has room: the record, NARROW_WAIT and the wait-age timer, and no lockout (R148). -/
theorem enterWaiting_of_open (hopen : s.stackClosed = false) (hroom : s.holds.has .narrowWait = true ∨ s.holds.stack.length < 4)
    (hi : i < s.narrow.records.length) :
    (enterWaiting i s).narrowRecord i = (s.narrowRecord i).toWaiting ∧
      (enterWaiting i s).narrow.waitAgeTimer = some s.time ∧ (enterWaiting i s).holds.unreleased .narrowWait = true ∧
      (enterWaiting i s).mode ≠ .lockout := by
  have hover : s.pushOverruns .narrowWait = false := by
    refine Bool.eq_false_iff.2 fun h => ?_
    simp only [State.pushOverruns, Bool.and_eq_true, Bool.not_eq_true', decide_eq_true_eq] at h
    rw [h.1.2] at hroom
    exact absurd (hroom.resolve_left nofun) (not_lt.2 h.2)
  obtain ⟨air, h, d, hpushed, -, -, hpush⟩ :=
    pushHold_pushedTo (s := s.setNarrowRecord i (s.narrowRecord i).toWaiting) hopen .narrowWait none
  obtain ⟨hheld, hlock⟩ := hpushed.unreleased hroom
  obtain ⟨-, hnone⟩ := stackClosed_eq_false.1 hopen
  rw [enterWaiting_of_room hover, hpush, beaconNowIf_frame]
  refine ⟨?_, rfl, hheld, fun hmode => ?_⟩
  · exact narrowRecord_eq_of_getElem? (List.getElem?_set_self hi)
  · exact (mode_eq_lockout_iff.1 hmode).2 (hlock.trans hnone)

/-- A change into WAITING that overruns the stack locks out and leaves the relations (R120). -/
theorem enterWaiting_of_full (hopen : s.stackClosed = false) (hnew : s.holds.has .narrowWait = false)
    (hfull : 4 ≤ s.holds.stack.length) :
    (enterWaiting i s).narrow = s.narrow ∧ (enterWaiting i s).mode = .lockout := by
  have hover : s.pushOverruns .narrowWait = true := by simp [State.pushOverruns, hopen, hnew, hfull]
  refine ⟨enterWaiting_overruns hover, mode_eq_lockout_iff.2 ⟨?_, ?_⟩⟩
  · obtain ⟨hload, -⟩ := stackClosed_eq_false.1 hopen
    rw [enterWaiting_frame]
    exact hload
  · obtain ⟨air, h, d, hpushed, -, -, hpush⟩ := pushHold_pushedTo hopen .narrowWait none
    rw [enterWaiting, if_pos hover, hpush]
    show h.lockout ≠ .none
    rw [hpushed.overruns hnew hfull]
    exact fun h => LockoutCause.noConfusion h

/-! ### The claim of a rig with no relation -/

/-- The stages from inheritance on. -/
def State.claimStages (rd v : State) : State := eachNarrow phaseStage (claimStage rd (inheritStage rd v))

section
variable (hahead : rd.narrowAhead = some i) (hi : i < v.narrow.records.length)
  (hlen : v.narrow.records.length = v.cfg.narrows.length) (hfree : ∀ j, v.relation j = .none)
include hahead hi hlen hfree

/-- The last stage is the phase test of the narrow ahead. -/
theorem claimStages_eq : rd.claimStages v = phaseStage i (claimStage rd (inheritStage rd v)) := by
  have hmoved := (movedAt_inheritStage (v := v) hahead).trans (movedAt_claimStage hahead)
  refine phases_of_one ?_ fun j hj => (hmoved.relation hj).trans (hfree j)
  rw [hmoved.outside.cfg, ← hlen]
  exact hi

theorem movedAt_claimStages : v.MovedAt i (rd.claimStages v) := by
  rw [claimStages_eq hahead hi hlen hfree]
  exact ((movedAt_inheritStage hahead).trans (movedAt_claimStage hahead)).trans movedAt_phaseStage

theorem claimStages_of_inherits (h : rd.Inherits i) : rd.claimStages v = enterHolding i true v := by
  have hholding : (enterHolding i true v).relation i = .holding :=
    congrArg NarrowRecord.relation (enterHolding_record true hi)
  rw [claimStages_eq hahead hi hlen hfree, (inheritStage_of_ahead hahead).1 h (.inl (hfree i)),
    claimStage_of_related hahead (by rw [hholding]; decide), phaseStage_of_settled (.inr hholding)]

variable (hnot : ¬rd.Inherits i)
include hnot

theorem claimStages_of_not_inherits : rd.claimStages v = phaseStage i (claimStage rd v) := by
  rw [claimStages_eq hahead hi hlen hfree, (inheritStage_of_ahead hahead).2 fun h => hnot h.1]

theorem claimStages_of_silent (hno : ¬(rd.mode ≠ .parked ∧ rd.road.quality ≠ .unknown)) : rd.claimStages v = v := by
  rw [claimStages_of_not_inherits hahead hi hlen hfree hnot, claimStage_of_silent hahead hno,
    phaseStage_of_settled (.inl (hfree i))]

variable (hrun : rd.mode ≠ .lockout) (hclaims : rd.mode ≠ .parked ∧ rd.road.quality ≠ .unknown)
include hrun hclaims

theorem claimStages_waits (hshown : rd.opposingShows i .holding = true ∨ rd.opposingShows i .waiting = true) :
    rd.claimStages v = phaseStage i (enterWaiting i v) := by
  rw [claimStages_of_not_inherits hahead hi hlen hfree hnot,
    claimStage_of_free hahead (hfree i) hrun hclaims, if_pos (Bool.or_eq_true_iff.2 hshown)]

variable (hopen : v.stackClosed = false)
include hopen

theorem claimStages_of_full (hshown : rd.opposingShows i .holding = true ∨ rd.opposingShows i .waiting = true)
    (hnew : v.holds.has .narrowWait = false) (hfull : 4 ≤ v.holds.stack.length) :
    rd.claimStages v = enterWaiting i v := by
  rw [claimStages_waits hahead hi hlen hfree hnot hrun hclaims hshown,
    phaseStage_of_lockout (enterWaiting_of_full hopen hnew hfull).2]

variable (hout : rd.SameOutsideHolds v)
include hout

theorem claimStages_asks (hquiet : ¬rd.opposingShows i .holding = true) (hcalm : ¬rd.opposingShows i .waiting = true) :
    rd.claimStages v = enterAsking i v := by
  have hasking : (enterAsking i v).relation i = .asking := congrArg NarrowRecord.relation (enterAsking_record hi)
  have hmode : (enterAsking i v).mode ≠ .lockout := fun h =>
    (mode_eq_lockout_iff.1 h).2 (stackClosed_eq_false.1 hopen).2
  have hshows := (hout.trans (enterAsking_outside i)).opposingShows i .holding
  rw [claimStages_of_not_inherits hahead hi hlen hfree hnot,
    claimStage_of_free hahead (hfree i) hrun hclaims, if_neg (by simp [hquiet, hcalm]), phaseStage_asking hmode hasking,
    if_neg (by rw [hshows]; exact hquiet)]

/-- A rig that waits and meets only lower waiters contests at once (R141). -/
theorem claimStages_of_room (hshown : rd.opposingShows i .holding = true ∨ rd.opposingShows i .waiting = true)
    (hroom : v.holds.has .narrowWait = true ∨ v.holds.stack.length < 4) :
    rd.claimStages v =
      if rd.opposingShows i .holding || rd.opposingShows i .asking || (enterWaiting i v).opposingWaitsHigher i then
        enterWaiting i v
      else contestPhase i (enterWaiting i v) := by
  obtain ⟨hrecord, -, -, hmode⟩ := enterWaiting_of_open hopen hroom hi
  have hsame := hout.trans (enterWaiting_outside i)
  rw [claimStages_waits hahead hi hlen hfree hnot hrun hclaims hshown,
    phaseStage_deferred hmode (by rw [State.relation, hrecord]; rfl) (by rw [hrecord]; rfl), hsame.opposingShows,
    hsame.opposingShows]

end

end Sys2Proof.Machine
end

section
/-!
PROOFS. NARROW_STEP: inheritance, claims and phase tests (O35).
-/

namespace Sys2Proof.Machine

variable {s rd v : State} {i : Nat}

/-! ### The step (R136) -/

/-- The state with its step timer started again where it ended. -/
def State.narrowRestarted (s : State) (start : Time) : State :=
  { s with narrow := { s.narrow with stepTimer := some (start + 20) } }

/-- The reading of a step: the turn-pending flag taken. -/
def State.narrowReading (s : State) : State := s.setRoad { s.road with turnNarrow := false }

theorem narrowReading_of_no_turn (h : s.road.turnNarrow = false) : s.narrowReading = s := by
  have hroad : ({ s.road with turnNarrow := false } : RoadTracker) = s.road := by rw [← h]
  rw [State.narrowReading, hroad]
  rfl

theorem exec_narrowStep_of_ran {start : Time} (hload : s.loading = false) (hlock : s.holds.lockout ≠ .config)
    (htimer : s.narrow.stepTimer = some start) (hran : 20 ≤ (s.time - start).toNat) :
    exec .narrowStep s = .next (settleLamps (narrowStep (s.narrowRestarted start))) := by
  refine (if_pos (stepDue_of_ran s hload hlock htimer hran)).trans (next_congr ?_)
  beta_reduce
  rw [htimer]
  rfl

theorem narrowStep_of_lockout (h : s.mode = .lockout) : narrowStep s = s.narrowReading := if_pos h

theorem narrowStep_of_running (h : s.mode ≠ .lockout) : narrowStep s = s.narrowReading.claimStages
    (eachNarrow unclaimedEntryStage (eachNarrow (dropStage s.road.turnNarrow) s.narrowReading)) := if_neg h

theorem lockout_of_running (hload : s.loading = false) (h : s.mode ≠ .lockout) : s.holds.lockout = .none :=
  by_contra fun hlock => h (mode_eq_lockout_iff.2 ⟨hload, hlock⟩)

theorem not_config_of_running (hload : s.loading = false) (h : s.mode ≠ .lockout) : s.holds.lockout ≠ .config := by
  rw [lockout_of_running hload h]
  exact fun h => LockoutCause.noConfusion h

theorem State.SameOutsideHolds.opposingWaitsHigher {t : State} (h : s.SameOutsideHolds t)
    (hage : (t.narrowRecord i).waitAge = (s.narrowRecord i).waitAge) : t.opposingWaitsHigher i = s.opposingWaitsHigher i := by
  rw [State.opposingWaitsHigher, State.opposingWaitsHigher, h.opposing, hage, h.ownId]

theorem contestPhase_record (hi : i < s.narrow.records.length) : (contestPhase i s).narrowRecord i =
    { (s.narrowRecord i).roundStarted s.time with phase := some .contesting } := narrowRecord_setNarrowRecord_self s _ hi

/-! ### A rig outside every narrow, and one with a relation in play -/

/-- A rig that is inside no enabled narrow enters none unclaimed (R138). -/
theorem entries_of_outside
    (h : ∀ e ∈ v.cfg.narrows, e.disabled = none → isInside e v.road.direction v.front v.rear = false) :
    eachNarrow unclaimedEntryStage v = v := by
  refine eachNarrow_fixed fun i _ => unclaimedEntryStage_of_claimed fun e he hinside => ?_
  obtain ⟨he, hen⟩ := enabledNarrow_eq_some_iff.1 he
  exact absurd ((h e (List.mem_of_getElem? he) hen).symm.trans hinside) (by decide)

/-- Without a turn a relation with a narrow that is neither left nor far back is kept (R137). -/
theorem drops_of_in_play {e : NarrowEntry} (hs : s.RelationsSound) (hi : s.relation i ≠ .none) (he : s.cfg.narrows[i]? = some e)
    (hleft : hasLeft e s.road.direction s.rear = false) (hfar : isFarBack s.cfg e s.road.direction s.front = false) :
    eachNarrow (dropStage false) s = s := by
  rw [drops_of_relation false hs hi he, hleft, hfar]
  rfl

/-- The stages from inheritance on, for a relation that stands with the narrow ahead or with none ahead. -/
theorem claimStages_of_related (hi : i < v.cfg.narrows.length) (hrel : v.relation i ≠ .none)
    (hothers : ∀ j, j ≠ i → v.relation j = .none) (hilen : i < v.narrow.records.length)
    (hahead : rd.narrowAhead = none ∨ rd.narrowAhead = some i) :
    (rd.narrowAhead = some i → rd.Inherits i → v.relation i = .asking → rd.claimStages v = enterHolding i true v) ∧
    (¬((rd.narrowAhead = some i ∧ rd.Inherits i) ∧ v.relation i = .asking) → rd.claimStages v = phaseStage i v) := by
  unfold State.claimStages
  refine ⟨fun hahead hinh hasking => ?_, fun hnot => ?_⟩
  · have hholding : (enterHolding i true v).relation i = .holding :=
      congrArg NarrowRecord.relation (enterHolding_record true hilen)
    rw [(inheritStage_of_ahead hahead).1 hinh (.inr hasking), claimStage_of_related hahead (by rw [hholding]; decide)]
    refine phases_of_settled fun j => ?_
    by_cases hj : j = i
    · exact .inr (hj ▸ hholding)
    · exact .inl ((movedAt_enterHolding (s := v) true).relation hj |>.trans (hothers j hj))
  · rcases hahead with hahead | hahead
    · rw [inheritStage_of_no_ahead hahead, claimStage_of_no_ahead hahead, phases_of_one hi hothers]
    · have hstays : inheritStage rd v = v := (inheritStage_of_ahead hahead).2 fun h =>
        hnot ⟨⟨hahead, h.1⟩, h.2.resolve_left hrel⟩
      rw [hstays, claimStage_of_related hahead hrel, phases_of_one hi hothers]

/-- A relation in play stands with the narrow ahead, if one is ahead (R132, R133). -/
theorem ahead_of_in_play (hroute : rd.RouteSound) (hrel : rd.RelationsSound)
    (hplay : rd.InPlay rd i) (hi : rd.relation i ≠ .none) : rd.narrowAhead = none ∨ rd.narrowAhead = some i := by
  obtain ⟨-, hone, -⟩ := relationsSound_iff.1 hrel
  obtain ⟨-, hothers⟩ := hone i hi
  cases hahead : rd.narrowAhead with
  | none => exact .inl rfl
  | some j =>
    refine .inr (congrArg some (by_contra fun hji => hi ?_))
    refine others_none_of_ahead (.refl rd) hroute hrel hahead (fun k _ _ => ?_) i (Ne.symm hji)
    by_cases hk : k = i
    · exact hk ▸ hplay
    · exact .of_none (hothers k hk)

end Sys2Proof.Machine

namespace Sys2Proof.Proofs
open Sys2Proof.Machine

section
variable {s : State} {i : Nat}

/-- What the opposing records show of a narrow, as the statements say it. -/
theorem opposingShows_iff_shown (i : Nat) {rel : Relation} (hrel : rel ≠ .none) : s.opposingShows i rel = true ↔
    ∃ x ∈ s.peers.records.filter (fun x =>
        decide ((s.time - x.stamp).toNat ≤ 3 * x.period) && decide (x.direction ≠ s.road.direction)),
      ∃ p, x.narrowPart = some p ∧ p.index = i ∧ p.relation = rel := by
  rw [State.opposingShows_iff hrel, State.opposing_eq]

theorem opposingWaitsHigher_iff_shown {r : NarrowRecord} (hr : (s.narrowRecord i).waitAge = r.waitAge) :
    s.opposingWaitsHigher i = true ↔
      ∃ x ∈ s.peers.records.filter (fun x =>
          decide ((s.time - x.stamp).toNat ≤ 3 * x.period) && decide (x.direction ≠ s.road.direction)),
        ∃ p, x.narrowPart = some p ∧ p.index = i ∧ p.relation = .waiting ∧
          (r.waitAge < p.waitAge ∨ (p.waitAge = r.waitAge ∧ x.id < s.ownId)) := by
  rw [State.opposingWaitsHigher_iff, State.opposing_eq, hr]

theorem inherits_iff_heard : s.Inherits i ↔ s.spacing.role = .follow ∧ ∃ q x p, s.spacing.predecessor = some q ∧
    s.peers.records.find? (fun x => decide (x.id = q.id)) = some x ∧ (s.time - x.stamp).toNat ≤ 3 * x.period ∧
    x.direction = s.road.direction ∧ x.convoyId = s.spacing.convoyId ∧ x.narrowPart = some p ∧ p.index = i ∧
    p.relation = .holding := by
  refine and_congr_right fun _ => ?_
  simp only [State.predecessorRecord_eq_some]
  constructor
  · rintro ⟨x, ⟨q, hq, hfind⟩, hfresh, hdir, hconvoy, p, hp, hindex, hrel⟩
    exact ⟨q, x, p, hq, hfind, hfresh, hdir, hconvoy, hp, hindex, hrel⟩
  · rintro ⟨q, x, p, hq, hfind, hfresh, hdir, hconvoy, hp, hindex, hrel⟩
    exact ⟨x, ⟨q, hq, hfind⟩, hfresh, hdir, hconvoy, p, hp, hindex, hrel⟩

end

/-- The stages of a step that finds no relation standing and the rig outside every narrow: the claim alone. -/
theorem exec_narrowStep_of_free {s : State} {start : Time} (hload : s.loading = false) (hrun : s.mode ≠ .lockout)
    (htimer : s.narrow.stepTimer = some start) (hran : 20 ≤ (s.time - start).toNat)
    (hnone : ∀ x ∈ s.narrow.records, x.relation = .none)
    (houtside : ∀ e ∈ s.cfg.narrows, e.disabled = none → isInside e s.road.direction s.front s.rear = false) :
    (∀ j, (s.narrowRestarted start).narrowReading.relation j = .none) ∧
      exec .narrowStep s = .next (settleLamps
        ((s.narrowRestarted start).narrowReading.claimStages (s.narrowRestarted start).narrowReading)) := by
  have hexec := exec_narrowStep_of_ran hload (not_config_of_running hload hrun) htimer hran
  have hfree : ∀ j, (s.narrowRestarted start).narrowReading.relation j = .none := by
    intro j
    by_contra hj
    exact hj (hnone _ (List.mem_of_getElem? (getElem?_narrowRecord (lt_length_of_relation_ne_none hj))))
  rw [narrowStep_of_running (s := s.narrowRestarted start) hrun, drops_of_free _ hfree,
    entries_of_outside (v := (s.narrowRestarted start).narrowReading) houtside] at hexec
  exact ⟨hfree, hexec⟩

/-- Settles O35: each claim and each relation kept, through the stages of one narrow. -/
theorem claimsStartAhead : Obligations.ClaimsStartAhead := by
  unfold Obligations.ClaimsStartAhead
  refine ⟨?_, ?_⟩
  · intro s start i r hload hrun htimer hran hsound hnone hr hahead houtside opposing shows higher inherits claims
    obtain ⟨hfree, hexec⟩ := exec_narrowStep_of_free hload hrun htimer hran hnone houtside
    have hopen : (s.narrowRestarted start).narrowReading.stackClosed = false := stackClosed_of_running hrun hload
    have hi : i < (s.narrowRestarted start).narrowReading.narrow.records.length := (List.getElem?_eq_some_iff.1 hr).1
    have hlen : (s.narrowRestarted start).narrowReading.narrow.records.length =
      (s.narrowRestarted start).narrowReading.cfg.narrows.length := (relationsSound_iff.1 hsound).1
    have hahead' : (s.narrowRestarted start).narrowReading.narrowAhead = some i := hahead
    have hrecord : (s.narrowRestarted start).narrowReading.narrowRecord i = r := narrowRecord_eq_of_getElem? hr
    have hinherits : (s.narrowRestarted start).narrowReading.Inherits i ↔ inherits := inherits_iff_heard
    have hshows {rel : Relation} (hrel : rel ≠ .none) :
      (s.narrowRestarted start).narrowReading.opposingShows i rel = true ↔ shows rel := opposingShows_iff_shown i hrel
    have hmoved := movedAt_claimStages (rd := (s.narrowRestarted start).narrowReading) hahead' hi hlen hfree
    refine ⟨_, hexec, hmoved.outside.road, hmoved.stepTimer, hmoved.queue, hmoved.others, fun hinh => ?_,
      fun hnot hno => ?_, fun hnot hc hquiet hcalm => ?_, fun hnot hc hshown hroom => ?_, fun hnot hc hshown hnew hfull => ?_⟩
    · rw [claimStages_of_inherits hahead' hi hlen hfree (hinherits.2 hinh)]
      have hself := enterHolding_record true hi
      exact ⟨congrArg NarrowRecord.relation hself, congrArg NarrowRecord.inherited hself, rfl⟩
    · rw [claimStages_of_silent hahead' hi hlen hfree (mt hinherits.1 hnot) hno]
      exact ⟨rfl, rfl, rfl⟩
    · rw [claimStages_asks hahead' hi hlen hfree (mt hinherits.1 hnot) hrun hc hopen (.refl _)
        (mt (hshows (by decide)).1 hquiet) (mt (hshows (by decide)).1 hcalm)]
      have hself := enterAsking_record hi
      exact ⟨congrArg NarrowRecord.relation hself, congrArg NarrowRecord.asksSent hself, congrArg NarrowRecord.waitAge hself,
        congrArg NarrowRecord.ask hself, rfl, rfl⟩
    · obtain ⟨hself, htimer', hheld, -⟩ := enterWaiting_of_open hopen hroom hi
      have hsame := enterWaiting_outside (s := (s.narrowRestarted start).narrowReading) i
      have hlen' := movedAt_enterWaiting (s := (s.narrowRestarted start).narrowReading) (i := i) |>.length
      have hhigher : (enterWaiting i (s.narrowRestarted start).narrowReading).opposingWaitsHigher i = true ↔ higher := by
        rw [hsame.opposingWaitsHigher (by rw [hself]; rfl)]
        exact opposingWaitsHigher_iff_shown (congrArg NarrowRecord.waitAge hrecord)
      have hdefers : ((s.narrowRestarted start).narrowReading.opposingShows i .holding ||
          (s.narrowRestarted start).narrowReading.opposingShows i .asking ||
          (enterWaiting i (s.narrowRestarted start).narrowReading).opposingWaitsHigher i) = true ↔
          shows .holding ∨ shows .asking ∨ higher := by
        rw [Bool.or_eq_true, Bool.or_eq_true, or_assoc, hshows (by decide), hshows (by decide), hhigher]
      rw [claimStages_of_room hahead' hi hlen hfree (mt hinherits.1 hnot) hrun hc hopen (.refl _)
        (hshown.imp (hshows (by decide)).2 (hshows (by decide)).2) hroom]
      by_cases hd : shows .holding ∨ shows .asking ∨ higher
      · rw [if_pos (hdefers.2 hd), if_pos hd]
        exact ⟨congrArg NarrowRecord.relation hself, hheld, htimer', congrArg NarrowRecord.phase hself⟩
      · rw [if_neg (mt hdefers.1 hd), if_neg hd]
        have hcontest := contestPhase_record (s := enterWaiting i (s.narrowRestarted start).narrowReading) (i := i)
          (hlen'.symm ▸ hi)
        rw [hself] at hcontest
        exact ⟨congrArg NarrowRecord.relation hcontest, hheld, htimer', congrArg NarrowRecord.phase hcontest⟩
    · rw [claimStages_of_full hahead' hi hlen hfree (mt hinherits.1 hnot) hrun hc hopen
        (hshown.imp (hshows (by decide)).2 (hshows (by decide)).2) hnew hfull]
      obtain ⟨hnarrow, hmode⟩ := enterWaiting_of_full (i := i) hopen hnew hfull
      have hrecords := congrArg NarrowUnit.records hnarrow
      exact ⟨hmode, hrecords⟩
  · intro s start i e r hload hrun htimer hran hturn hroute hsound he hr hrel hleft hfar houtside opposing shows higher inherits
      s1 written
    have hexec := exec_narrowStep_of_ran hload (not_config_of_running hload hrun) htimer hran
    have hs1 : s.narrowRestarted start = s1 := rfl
    have hrun' : s1.mode ≠ .lockout := hrun
    have hi : i < s1.narrow.records.length := (List.getElem?_eq_some_iff.1 hr).1
    have hrecord : s1.narrowRecord i = r := narrowRecord_eq_of_getElem? hr
    have hrelation : s1.relation i = r.relation := congrArg NarrowRecord.relation hrecord
    have hstands : s1.relation i ≠ .none := by
      rw [hrelation]
      rcases hrel with h | h <;> rw [h] <;> decide
    obtain ⟨-, hone, -⟩ := relationsSound_iff.1 hsound
    obtain ⟨-, hothers⟩ := hone i hstands
    have hplay : s1.InPlay s1 i := fun e' he' _ => Option.some.inj (he.symm.trans he') ▸ ⟨hleft, hfar⟩
    have hkept : eachNarrow (dropStage false) s1 = s1 := drops_of_in_play (s := s1) hsound hstands he hleft hfar
    rw [hs1, narrowStep_of_running (s := s1) hrun, narrowReading_of_no_turn (s := s1) hturn,
      show s1.road.turnNarrow = false from hturn, hkept, entries_of_outside (v := s1) houtside] at hexec
    obtain ⟨htakes, hstays⟩ := claimStages_of_related (rd := s1) (v := s1) (List.getElem?_eq_some_iff.1 he).1 hstands hothers hi
      (ahead_of_in_play hroute hsound hplay hstands)
    have hshows {rel : Relation} (hrel : rel ≠ .none) : s1.opposingShows i rel = true ↔ shows rel :=
      opposingShows_iff_shown i hrel
    have hhigher : s1.opposingWaitsHigher i = true ↔ higher := opposingWaitsHigher_iff_shown (congrArg NarrowRecord.waitAge hrecord)
    refine hexec.trans (next_congr ?_)
    rcases hrel with hasking | hwaiting
    · rw [if_pos hasking]
      by_cases hinh : inherits
      · rw [if_pos hinh]
        exact htakes hinh.1 hinh.2 (hrelation.trans hasking)
      · rw [if_neg hinh, hstays fun h => hinh h.1, phaseStage_asking hrun' (hrelation.trans hasking)]
        exact if_congr (hshows (by decide)) rfl rfl
    · have hw : s1.relation i = .waiting := hrelation.trans hwaiting
      rw [if_neg (by rw [hwaiting]; decide), hstays fun h => absurd (hw.symm.trans h.2) (by decide)]
      by_cases hdef : r.phase = some .deferred
      · have hwaits : (s1.opposingShows i .holding || s1.opposingShows i .asking || s1.opposingWaitsHigher i) = true ↔
            shows .holding ∨ shows .asking ∨ higher := by
          rw [Bool.or_eq_true, Bool.or_eq_true, or_assoc, hshows (by decide), hshows (by decide), hhigher]
        have hcon : ¬(r.phase = some .contesting ∧ (shows .holding ∨ higher)) := fun h =>
          absurd (hdef.symm.trans h.1) (by decide)
        rw [phaseStage_deferred hrun' hw ((congrArg NarrowRecord.phase hrecord).trans hdef)]
        by_cases hd : shows .holding ∨ shows .asking ∨ higher
        · rw [if_pos (hwaits.2 hd), if_neg fun h => h.2 hd, if_neg hcon]
        · rw [if_neg (mt hwaits.1 hd), if_pos ⟨hdef, hd⟩, contestPhase, hrecord]
          rfl
      · rw [if_neg fun h => hdef h.1]
        by_cases hcon : r.phase = some .contesting
        · have hdefers : (s1.opposingShows i .holding || s1.opposingWaitsHigher i) = true ↔ shows .holding ∨ higher := by
            rw [Bool.or_eq_true, hshows (by decide), hhigher]
          rw [phaseStage_contesting hrun' hw ((congrArg NarrowRecord.phase hrecord).trans hcon)]
          by_cases hd : shows .holding ∨ higher
          · rw [if_pos (hdefers.2 hd), if_pos ⟨hcon, hd⟩, deferPhase, hrecord]
            rfl
          · rw [if_neg (mt hdefers.1 hd), if_neg fun h => hd h.2]
        · rw [if_neg fun h => hcon h.1]
          exact phaseStage_no_phase hw (hrecord ▸ hdef) (hrecord ▸ hcon)

end Sys2Proof.Proofs
end

section
/-!
PROOFS. NARROW_STEP: the drops, the unclaimed entry, the kept HOLDING, and a drop with another narrow ahead (O34).
-/

namespace Sys2Proof.Machine

variable {s t u rd v : State} {i j : Nat}

/-! ### The stage of drops, in one change at most (R137) -/

theorem enabled_of_relation (hs : s.RelationsSound) (hi : s.relation i ≠ .none) :
    ∃ e, s.cfg.narrows[i]? = some e ∧ e.disabled = none := by
  obtain ⟨-, hone, -⟩ := relationsSound_iff.1 hs
  obtain ⟨e, he⟩ := Option.isSome_iff_exists.1 (hone i hi).1
  exact ⟨e, enabledNarrow_eq_some_iff.1 he⟩

theorem drops_cases (turned : Bool) (hs : s.RelationsSound) : eachNarrow (dropStage turned) s = s ∨
    ∃ k, s.relation k ≠ .none ∧ eachNarrow (dropStage turned) s = dropRelation k s := by
  by_cases hfree : ∀ k, s.relation k = .none
  · exact .inl (drops_of_free turned hfree)
  · obtain ⟨k, hk⟩ := not_forall.1 hfree
    obtain ⟨e, he, -⟩ := enabled_of_relation hs hk
    rw [drops_of_relation turned hs hk he]
    split
    · exact .inr ⟨k, hk, rfl⟩
    · exact .inl rfl

theorem movedAt_drops (turned : Bool) (hs : s.RelationsSound) : ∃ k, s.MovedAt k (eachNarrow (dropStage turned) s) := by
  rcases drops_cases turned hs with h | ⟨k, -, h⟩ <;> rw [h]
  · exact ⟨0, .refl 0 s⟩
  · exact ⟨k, movedAt_dropRelation⟩

theorem relation_of_dropRelation (hs : s.RelationsSound) (hi : s.relation i ≠ .none) (j : Nat) :
    (dropRelation i s).relation j = .none := by
  obtain ⟨-, hone, -⟩ := relationsSound_iff.1 hs
  by_cases hj : j = i
  · exact hj ▸ dropRelation_relation_self i
  · exact dropRelation_relation_none ((hone i hi).2 j hj)

/-- A drop from every narrow that the drops test meets leaves no relation. -/
theorem drops_all (turned : Bool) (hs : s.RelationsSound)
    (hdrop : ∀ e ∈ s.cfg.narrows, e.disabled = none →
      turned = true ∨ hasLeft e s.road.direction s.rear = true ∨ isFarBack s.cfg e s.road.direction s.front = true) (j : Nat) :
    (eachNarrow (dropStage turned) s).relation j = .none := by
  by_cases hfree : ∀ k, s.relation k = .none
  · rw [drops_of_free turned hfree]
    exact hfree j
  · obtain ⟨k, hk⟩ := not_forall.1 hfree
    obtain ⟨e, he, hen⟩ := enabled_of_relation hs hk
    rw [drops_of_relation turned hs hk he, if_pos]
    · exact relation_of_dropRelation hs hk j
    · simpa [or_assoc] using hdrop e (List.mem_of_getElem? he) hen

/-- The record of a narrow the rig is inside: it goes by a turn alone (R137). -/
theorem drops_record_of_inside (turned : Bool) (hs : s.RelationsSound) {e : NarrowEntry} (he : s.cfg.narrows[i]? = some e)
    (hinside : isInside e s.road.direction s.front s.rear = true) :
    (eachNarrow (dropStage turned) s).narrowRecord i =
      if turned = true ∧ s.relation i ≠ .none then (s.narrowRecord i).toNone else s.narrowRecord i := by
  by_cases hi : s.relation i = .none
  · rw [if_neg fun h => h.2 hi]
    rcases drops_cases turned hs with h | ⟨k, hk, h⟩ <;> rw [h]
    exact dropRelation_record_ne fun hik => hk (hik ▸ hi)
  · obtain ⟨hleft, hfar⟩ := inside_in_play (rd := s) hinside
    rw [drops_of_relation turned hs hi he, hleft, hfar, Bool.or_false, Bool.or_false]
    cases turned with
    | false => rw [if_neg (by decide), if_neg (by simp)]
    | true =>
      rw [if_pos rfl, if_pos ⟨rfl, hi⟩, narrowRecord_congr (dropRelation_records s i hi),
        narrowRecord_setNarrowRecord_self s _ (lt_length_of_relation_ne_none hi)]

/-! ### No narrow ahead, and none entered -/

theorem narrowAhead_eq_none (h : ∀ e ∈ s.cfg.narrows, e.disabled = none → isAhead s.cfg e s.road.direction s.front = false) :
    s.narrowAhead = none := by
  by_contra hsome
  obtain ⟨i, hi⟩ := Option.ne_none_iff_exists'.1 hsome
  obtain ⟨e, he, hahead⟩ := narrowAhead_eq_some hi
  obtain ⟨he, hen⟩ := enabledNarrow_eq_some_iff.1 he
  exact absurd ((h e (List.mem_of_getElem? he) hen).symm.trans hahead) (by decide)

theorem entries_of_same (hout : rd.SameOutsideHolds v)
    (h : ∀ e ∈ rd.cfg.narrows, e.disabled = none → isInside e rd.road.direction rd.front rd.rear = false) :
    eachNarrow unclaimedEntryStage v = v :=
  entries_of_outside (by rwa [hout.cfg, hout.road, hout.front, hout.rear])

/-- With no narrow ahead and no relation but HOLDING, the stages from inheritance on do nothing. -/
theorem claimStages_of_settled (hahead : rd.narrowAhead = none) (h : ∀ j, v.relation j = .none ∨ v.relation j = .holding) :
    rd.claimStages v = v := by
  rw [State.claimStages, inheritStage_of_no_ahead hahead, claimStage_of_no_ahead hahead, phases_of_settled h]

/-! ### A rig inside a narrow (R132, R133) -/

/-- A rig inside a narrow is not inside another one, and has none ahead: they lie D_claim and the longest rig off. -/
theorem clear_of_inside {c : WorkingConfig} {a b : NarrowEntry} {d : Direction} {front : Int} {rig : Nat}
    (hinside : isInside a d front (rearOf d front rig) = true) (hrig : rig ≤ 4095)
    (hapart : a.hi + (c.dClaim + c.dStop + 4095) ≤ b.lo ∨ b.hi + (c.dClaim + c.dStop + 4095) ≤ a.lo)
    (hb : b.lo < b.hi) : isInside b d front (rearOf d front rig) = false ∧ isAhead c b d front = false := by
  rw [isInside_iff] at hinside
  rw [← Bool.not_eq_true, ← Bool.not_eq_true, isInside_iff, isAhead_iff]
  cases d <;> simp only [entryDistance, rearOf] at hinside ⊢ <;> omega

theorem not_ahead_of_inside {c : WorkingConfig} {a : NarrowEntry} {d : Direction} {front rear : Int}
    (hinside : isInside a d front rear = true) : isAhead c a d front = false := by
  rw [isInside_iff] at hinside
  rw [← Bool.not_eq_true, isAhead_iff]
  cases d <;> simp only [entryDistance] at hinside ⊢ <;> omega

section
variable {e : NarrowEntry} (hroute : s.RouteSound) (he : s.cfg.enabledNarrow i = some e)
  (hinside : isInside e s.road.direction s.front s.rear = true)
include hroute he hinside

theorem others_clear_of_inside {b : NarrowEntry} (hb : s.cfg.enabledNarrow j = some b) (hne : j ≠ i) :
    isInside b s.road.direction s.front s.rear = false ∧ isAhead s.cfg b s.road.direction s.front = false := by
  obtain ⟨-, horder, -, hrig⟩ := id hroute
  have hpositive {k : Nat} {x : NarrowEntry} (hx : s.cfg.enabledNarrow k = some x) : x.lo < x.hi := by
    obtain ⟨hk, hen⟩ := enabledNarrow_eq_some_iff.1 hx
    exact horder x (List.mem_of_getElem? hk) hen
  exact clear_of_inside hinside hrig (narrows_apart hroute he hb hne) (hpositive hb)

theorem no_ahead_of_inside : s.narrowAhead = none := by
  refine narrowAhead_eq_none fun b hb hben => ?_
  obtain ⟨j, hj⟩ := List.mem_iff_getElem?.1 hb
  have hbj : s.cfg.enabledNarrow j = some b := enabledNarrow_eq_some_iff.2 ⟨hj, hben⟩
  by_cases hji : j = i
  · subst hji
    obtain rfl := Option.some.inj (he.symm.trans hbj)
    exact not_ahead_of_inside hinside
  · exact (others_clear_of_inside hroute he hinside hbj hji).2

end

/-- What taking an unclaimed narrow leaves (R138). -/
def enterUnclaimed (i : Nat) (s : State) : State :=
  let s1 := enterHolding i false (dropOthers i s)
  s1.setCounters { s1.counters with unclaimedEntry := bump s1.counters.unclaimedEntry }

theorem unclaimedEntryStage_of_inside {e : NarrowEntry} (he : s.cfg.enabledNarrow i = some e)
    (hinside : isInside e s.road.direction s.front s.rear = true) (hrel : s.relation i ≠ .holding) :
    unclaimedEntryStage i s = enterUnclaimed i s := by
  rw [unclaimedEntryStage, he]
  exact if_pos ⟨hinside, hrel⟩

theorem dropOthers_keeps (i : Nat) (s : State) : s.SameOutsideHolds (dropOthers i s) ∧
    (dropOthers i s).counters = s.counters ∧ (dropOthers i s).narrow.records.length = s.narrow.records.length ∧
    (dropOthers i s).narrowRecord i = s.narrowRecord i := by
  refine foldl_keeps (P := fun t : State => s.SameOutsideHolds t ∧ t.counters = s.counters ∧
    t.narrow.records.length = s.narrow.records.length ∧ t.narrowRecord i = s.narrowRecord i)
    ⟨.refl s, rfl, rfl, rfl⟩ fun j hj t ht => ?_
  obtain ⟨hout, hcount, hlen, hrecord⟩ := ht
  have hmoved := movedAt_dropRelation (s := t) (i := j)
  have hji : i ≠ j := Ne.symm (by simpa using (List.mem_filter.1 hj).2)
  exact ⟨hout.trans hmoved.outside, hmoved.counters.trans hcount, hmoved.length.trans hlen, (hmoved.record hji).trans hrecord⟩

theorem enterUnclaimed_spec (hlen : s.narrow.records.length = s.cfg.narrows.length) (hi : i < s.narrow.records.length) :
    s.SameOutsideHolds (enterUnclaimed i s) ∧
      (enterUnclaimed i s).counters = { s.counters with unclaimedEntry := bump s.counters.unclaimedEntry } ∧
      (enterUnclaimed i s).narrowRecord i = (s.narrowRecord i).toHolding false ∧
      (∀ j, j ≠ i → (enterUnclaimed i s).relation j = .none) ∧ (enterUnclaimed i s).air.beaconNow = true := by
  obtain ⟨hout, hcount, hlen', hrecord⟩ := dropOthers_keeps i s
  have hmoved := movedAt_enterHolding (s := dropOthers i s) (i := i) false
  have hself := enterHolding_record (s := dropOthers i s) (i := i) false (hlen' ▸ hi)
  have hbeacon := enterHolding_beaconNow i false (dropOthers i s)
  have hfree (j : Nat) (hj : j ≠ i) : (dropOthers i s).relation j = .none := by
    by_cases hlt : j < s.cfg.narrows.length
    · exact dropOthers_relation hlt hj
    · rw [State.relation, narrowRecord_of_length_le (by rw [hlen', hlen]; exact not_lt.1 hlt)]
      rfl
  rw [hrecord] at hself
  unfold enterUnclaimed
  generalize enterHolding i false (dropOthers i s) = u at hmoved hself hbeacon
  refine ⟨(hout.trans hmoved.outside).trans (setCounters_outside _), ?_, hself,
    fun j hj => (hmoved.relation hj).trans (hfree j hj), hbeacon⟩
  show { u.counters with unclaimedEntry := bump u.counters.unclaimedEntry } = _
  rw [hmoved.counters, hcount]

end Sys2Proof.Machine
end

section
/-!
PROOFS. NARROW_STEP: lockout, drops, the unclaimed entry, the kept HOLDING, and a drop with another narrow ahead (O34).
-/

namespace Sys2Proof.Machine

variable {s t u rd v : State} {i j : Nat}

/-! ### NARROW_WAIT after the stages -/

/-- The step keeps NARROW_WAIT paired with a WAITING relation (R148). -/
theorem narrowStep_pairingSound (hload : s.loading = false) (hroute : s.RouteSound) (hrel : s.RelationsSound)
    (hp : s.PairingSound) : (narrowStep s).PairingSound := by
  have hkept := (acts_narrowStep hload).invariant (P := fun s => (s.RouteSound ∧ s.RelationsSound) ∧ s.PairingSound)
    (fun h hs => ⟨⟨h.routeSound hs.1.1, h.relationsSound hs.1.1 hs.1.2⟩, h.pairingSound hs.1.1 hs.1.2 hs.2⟩)
    ⟨⟨hroute, hrel⟩, hp⟩
  exact hkept.2

theorem no_wait_of_pairing (hp : s.PairingSound) (h : ∀ j, s.relation j ≠ .waiting) : s.holds.unreleased .narrowWait = false := by
  refine Bool.eq_false_iff.2 fun hheld => ?_
  obtain ⟨j, hj⟩ := (pairingSound_iff.1 hp).1 hheld
  exact h j hj

/-- The drop of the only relation leaves no NARROW_WAIT unreleased (R148). -/
theorem dropRelation_no_wait (hs : s.RelationsSound) (hp : s.PairingSound) (hrun : s.mode ≠ .lockout)
    (hi : s.relation i ≠ .none) : (dropRelation i s).holds.unreleased .narrowWait = false := by
  rcases dropRelation_cases s i with ⟨hnone, -⟩ | ⟨hrel, h⟩
  · exact absurd hnone hi
  have hpairing : (dropRelation i s).PairingSound := by
    refine pairing_of_change hs hp hrun (lt_length_of_relation_ne_none hrel) (r := (s.narrowRecord i).toNone)
      (by simp [NarrowRecord.toNone]) rfl (dropRelation_records s i hrel) ?_
    rw [h, beaconNowIf_holds]
  refine no_wait_of_pairing hpairing fun j => ?_
  rw [relation_of_dropRelation hs hi j]
  decide

/-! ### Room on the stack after a drop -/

theorem popCascade_eq_or_shorter (l : List HoldRecord) : popCascade l = l ∨ (popCascade l).length < l.length := by
  cases l with
  | nil => exact .inl rfl
  | cons r l =>
    unfold popCascade
    rw [List.dropWhile_cons]
    split
    · exact .inr (Nat.lt_succ_of_le (List.dropWhile_suffix _).length_le)
    · exact .inl rfl

theorem releaseHold_room (hstack : s.holds.stack.length ≤ 4)
    (hroom : s.holds.has .narrowWait = true ∨ s.holds.stack.length < 4) :
    (releaseHold .narrowWait s).holds.has .narrowWait = true ∨ (releaseHold .narrowWait s).holds.stack.length < 4 := by
  rcases releaseHold_holds_drive s .narrowWait with ⟨-, hh, -⟩ | ⟨-, -, hh, -⟩ <;> rw [hh]
  · exact hroom
  have hlen : (markReleased s.holds.stack .narrowWait).length = s.holds.stack.length := List.length_map _
  rcases popCascade_eq_or_shorter (markReleased s.holds.stack .narrowWait) with hsame | hshort
  · rw [hsame]
    refine hroom.imp (fun hhas => ?_) fun hlt => hlen.trans_lt hlt
    obtain ⟨r, hr, hcause⟩ := has_iff.1 hhas
    exact has_iff.2 ⟨_, List.mem_map.2 ⟨r, hr, rfl⟩, by split <;> exact hcause⟩
  · exact .inr (hshort.trans_le (hlen.trans_le hstack))

theorem dropRelation_room (hstack : s.holds.stack.length ≤ 4)
    (hroom : s.holds.has .narrowWait = true ∨ s.holds.stack.length < 4) :
    (dropRelation i s).holds.has .narrowWait = true ∨ (dropRelation i s).holds.stack.length < 4 := by
  rcases dropRelation_cases s i with ⟨-, h⟩ | ⟨-, h⟩ <;> rw [h]
  · exact hroom
  rw [beaconNowIf_holds]
  rcases releaseWaitIf_cases (s.setNarrowRecord i (s.narrowRecord i).toNone)
    (decide ((s.narrowRecord i).relation = .waiting)) with h' | ⟨-, h'⟩ <;> rw [h']
  · exact hroom
  · exact releaseHold_room (s := s.setNarrowRecord i (s.narrowRecord i).toNone) hstack hroom

theorem dropRelation_open (hopen : s.stackClosed = false) : (dropRelation i s).stackClosed = false := by
  obtain ⟨hload, hlock⟩ := stackClosed_eq_false.1 hopen
  refine stackClosed_eq_false.2 ⟨?_, (dropRelation_lockout i).trans hlock⟩
  rw [State.loading, (dropRelation_outside i).loader]
  exact hload

/-! ### The beacon request stands through the claim -/

theorem dropRelation_beaconNow (h : s.relation i = .holding) : (dropRelation i s).air.beaconNow = true := by
  rcases dropRelation_cases s i with ⟨hnone, -⟩ | ⟨-, h'⟩
  · exact absurd (h.symm.trans hnone) (by decide)
  · have hrel : (s.narrowRecord i).relation = .holding := h
    rw [h', beaconNowIf_beaconNow, hrel]
    exact Bool.or_true _

theorem enterWaiting_beaconNow (h : s.air.beaconNow = true) : (enterWaiting i s).air.beaconNow = true := by
  by_cases hover : s.pushOverruns .narrowWait = true
  · rw [enterWaiting, if_pos hover, pushHold_beaconNow]
    exact h
  · rw [enterWaiting_of_room (Bool.eq_false_iff.2 hover), beaconNowIf_beaconNow]
    refine Bool.or_eq_true_iff.2 (.inl ?_)
    show (pushHold .narrowWait none (s.setNarrowRecord i (s.narrowRecord i).toWaiting)).air.beaconNow = true
    rw [pushHold_beaconNow]
    exact h

theorem inheritStage_beaconNow (h : v.air.beaconNow = true) : (inheritStage rd v).air.beaconNow = true := by
  unfold inheritStage
  split
  · dsimp only
    split
    · rfl
    · exact h
  · exact h

theorem claimStage_beaconNow (h : v.air.beaconNow = true) : (claimStage rd v).air.beaconNow = true := by
  unfold claimStage
  repeat' split
  · exact h
  · exact enterWaiting_beaconNow h
  · rfl
  · exact h

theorem phaseStage_beaconNow (h : v.air.beaconNow = true) : (phaseStage i v).air.beaconNow = true := by
  unfold phaseStage
  dsimp only
  repeat' split
  any_goals exact h
  exact enterWaiting_beaconNow h

theorem forall_relation_none (h : ∀ j, s.relation j = .none) : ∀ r ∈ s.narrow.records, r.relation = .none := by
  intro r hr
  obtain ⟨j, hj⟩ := List.mem_iff_getElem?.1 hr
  have hnone := h j
  rwa [State.relation, narrowRecord_eq_of_getElem? hj] at hnone

/-- The stages of a rig found inside a narrow it does not hold: that narrow taken, and nothing claimed (R138). -/
theorem stages_of_unclaimed {e : NarrowEntry} (turned : Bool) (hroute : rd.RouteSound) (hsound : rd.RelationsSound)
    (he : rd.cfg.enabledNarrow i = some e) (hinside : isInside e rd.road.direction rd.front rd.rear = true)
    (hentry : turned = true ∨ rd.relation i ≠ .holding) :
    rd.claimStages (eachNarrow unclaimedEntryStage (eachNarrow (dropStage turned) rd)) =
      enterUnclaimed i (eachNarrow (dropStage turned) rd) := by
  obtain ⟨hnarrow, -⟩ := enabledNarrow_eq_some_iff.1 he
  obtain ⟨k, hmoved⟩ := movedAt_drops turned hsound
  have hrecord := drops_record_of_inside turned hsound hnarrow hinside
  generalize eachNarrow (dropStage turned) rd = u at hmoved hrecord ⊢
  have hlen : u.narrow.records.length = u.cfg.narrows.length := by
    rw [hmoved.length, hmoved.outside.cfg]
    exact hsound.1
  have hi : i < u.cfg.narrows.length := by
    rw [hmoved.outside.cfg]
    exact (List.getElem?_eq_some_iff.1 hnarrow).1
  have hrel : u.relation i ≠ .holding := by
    rw [State.relation, hrecord]
    split
    · exact fun h => Relation.noConfusion h
    · rename_i hkept
      refine hentry.elim (fun hturned h => hkept ⟨hturned, fun hn => ?_⟩) id
      exact absurd (hn.symm.trans h) (by decide)
  obtain ⟨hout, -, hself, hothers, -⟩ := enterUnclaimed_spec hlen (hlen ▸ hi)
  have hstage : unclaimedEntryStage i u = enterUnclaimed i u :=
    unclaimedEntryStage_of_inside (hmoved.outside.cfg.symm ▸ he)
      (by rw [hmoved.outside.road, hmoved.outside.front, hmoved.outside.rear]; exact hinside) hrel
  have hclear {v : State} (hv : rd.SameOutsideHolds v) {j : Nat} (hj : j ≠ i) : unclaimedEntryStage j v = v := by
    refine unclaimedEntryStage_of_claimed fun b hb hin => ?_
    rw [hv.cfg] at hb
    rw [hv.road, hv.front, hv.rear, (others_clear_of_inside hroute he hinside hb hj).1] at hin
    contradiction
  have hentries : eachNarrow unclaimedEntryStage u = enterUnclaimed i u := by
    rw [← hstage]
    refine eachNarrow_single hi (fun j hj => hclear hmoved.outside hj) fun j hj => hclear ?_ hj
    rw [hstage]
    exact hmoved.outside.trans hout
  rw [hentries]
  refine claimStages_of_settled (no_ahead_of_inside hroute he hinside) fun j => ?_
  by_cases hj : j = i
  · exact .inr (hj ▸ congrArg NarrowRecord.relation hself)
  · exact .inl (hothers j hj)

theorem claimStages_beaconNow (h : v.air.beaconNow = true) : (rd.claimStages v).air.beaconNow = true :=
  eachNarrow_keeps (P := fun t => t.air.beaconNow = true) (claimStage_beaconNow (inheritStage_beaconNow h))
    fun _ _ _ => phaseStage_beaconNow

end Sys2Proof.Machine

namespace Sys2Proof.Proofs
open Sys2Proof.Machine

/-- A rig found inside a narrow it does not hold: the drops, and then that narrow taken (R137, R138). -/
theorem exec_narrowStep_of_unclaimed {s : State} {start : Time} {i : Nat} {e : NarrowEntry} (hload : s.loading = false)
    (hrun : s.mode ≠ .lockout) (htimer : s.narrow.stepTimer = some start) (hran : 20 ≤ (s.time - start).toNat)
    (hroute : s.RouteSound) (hsound : s.RelationsSound) (hpair : s.PairingSound) (he : s.cfg.narrows[i]? = some e)
    (hen : e.disabled = none) (hinside : isInside e s.road.direction s.front s.rear = true)
    (hentry : s.road.turnNarrow = true ∨ s.relation i ≠ .holding) :
    ∃ u k, exec .narrowStep s = .next (settleLamps (enterUnclaimed i u)) ∧
      (s.narrowRestarted start).narrowReading.MovedAt k u ∧
      u.narrowRecord i = (if s.road.turnNarrow = true ∧ s.relation i ≠ .none then (s.narrowRecord i).toNone else s.narrowRecord i) ∧
      (enterUnclaimed i u).PairingSound := by
  have hexec := exec_narrowStep_of_ran hload (not_config_of_running hload hrun) htimer hran
  have hpairing := narrowStep_pairingSound (s := s.narrowRestarted start) hload hroute hsound hpair
  obtain ⟨k, hmoved⟩ := movedAt_drops (s := (s.narrowRestarted start).narrowReading) s.road.turnNarrow hsound
  have hstages := stages_of_unclaimed (rd := (s.narrowRestarted start).narrowReading) s.road.turnNarrow hroute hsound
    (enabledNarrow_eq_some_iff.2 ⟨he, hen⟩) hinside hentry
  have hstep : narrowStep (s.narrowRestarted start) = _ := (narrowStep_of_running (s := s.narrowRestarted start) hrun).trans hstages
  rw [hstep] at hexec hpairing
  exact ⟨_, k, hexec, hmoved,
    drops_record_of_inside (s := (s.narrowRestarted start).narrowReading) s.road.turnNarrow hsound he hinside, hpairing⟩

section
variable {s : State} {start : Time} {i : Nat} {e : NarrowEntry}

/-- A HOLDING relation in play is kept, and the step does nothing else (R137). -/
theorem narrowStep_of_holding (hrun : s.mode ≠ .lockout) (hturn : s.road.turnNarrow = false) (hroute : s.RouteSound)
    (hsound : s.RelationsSound) (he : s.cfg.narrows[i]? = some e) (hholding : s.relation i = .holding)
    (hleft : hasLeft e s.road.direction s.rear = false) (hfar : isFarBack s.cfg e s.road.direction s.front = false)
    (hclear : ∀ (j : Nat) (x : NarrowEntry), j ≠ i → s.cfg.narrows[j]? = some x → x.disabled = none →
      isInside x s.road.direction s.front s.rear = false) :
    narrowStep (s.narrowRestarted start) = s.narrowRestarted start := by
  have hstands : s.relation i ≠ .none := ne_of_eq_of_ne hholding (by decide)
  obtain ⟨-, hone, -⟩ := relationsSound_iff.1 hsound
  obtain ⟨-, hothers⟩ := hone i hstands
  have hkept := drops_of_in_play (s := s.narrowRestarted start) hsound hstands he hleft hfar
  have hentries : eachNarrow unclaimedEntryStage (s.narrowRestarted start) = s.narrowRestarted start := by
    refine eachNarrow_fixed fun j _ => unclaimedEntryStage_of_claimed fun x hx hin => ?_
    obtain ⟨hx, hen⟩ := enabledNarrow_eq_some_iff.1 hx
    by_cases hj : j = i
    · exact hj ▸ hholding
    · exact absurd ((hclear j x hj hx hen).symm.trans hin) (by decide)
  have hplay : (s.narrowRestarted start).InPlay (s.narrowRestarted start) i := fun e' he' _ =>
    Option.some.inj (he.symm.trans he') ▸ ⟨hleft, hfar⟩
  obtain ⟨-, hstays⟩ := claimStages_of_related (rd := s.narrowRestarted start) (v := s.narrowRestarted start)
    (List.getElem?_eq_some_iff.1 he).1 hstands hothers (lt_length_of_relation_ne_none (s := s) hstands)
    (ahead_of_in_play (rd := s.narrowRestarted start) hroute hsound hplay hstands)
  rw [narrowStep_of_running (s := s.narrowRestarted start) hrun, narrowReading_of_no_turn (s := s.narrowRestarted start) hturn,
    show (s.narrowRestarted start).road.turnNarrow = false from hturn, hkept, hentries,
    hstays fun h => absurd (hholding.symm.trans h.2) (by decide),
    phaseStage_of_settled (s := s.narrowRestarted start) (.inr hholding)]

/-- A relation with a narrow left or far back is dropped, and a rig outside every narrow goes on to its claim (R137). -/
theorem narrowStep_of_gone (hrun : s.mode ≠ .lockout) (hturn : s.road.turnNarrow = false) (hsound : s.RelationsSound)
    (he : s.cfg.narrows[i]? = some e) (hstands : s.relation i ≠ .none)
    (hgone : hasLeft e s.road.direction s.rear = true ∨ isFarBack s.cfg e s.road.direction s.front = true)
    (houtside : ∀ x ∈ s.cfg.narrows, x.disabled = none → isInside x s.road.direction s.front s.rear = false) :
    narrowStep (s.narrowRestarted start) =
      (s.narrowRestarted start).claimStages (dropRelation i (s.narrowRestarted start)) := by
  have hdrops : eachNarrow (dropStage false) (s.narrowRestarted start) = dropRelation i (s.narrowRestarted start) := by
    rw [drops_of_relation (s := s.narrowRestarted start) false hsound hstands he]
    refine if_pos ?_
    rw [Bool.false_or]
    exact Bool.or_eq_true_iff.2 hgone
  rw [narrowStep_of_running (s := s.narrowRestarted start) hrun, narrowReading_of_no_turn (s := s.narrowRestarted start) hturn,
    show (s.narrowRestarted start).road.turnNarrow = false from hturn, hdrops,
    entries_of_same (rd := s.narrowRestarted start) (dropRelation_outside i) houtside]

end

/-- Settles O34: each stage of the step acts on one narrow, and the rest of the step follows from what it leaves. -/
theorem narrowStepDropsAndTakesEntries : Obligations.NarrowStepDropsAndTakesEntries := by
  unfold Obligations.NarrowStepDropsAndTakesEntries
  refine ⟨fun s start hload hlock htimer hran => ⟨fun hmode => ?_, fun hrun hsound hclear hdrop => ?_⟩, ?_, ?_, ?_⟩
  · have hexec := exec_narrowStep_of_ran hload hlock htimer hran
    rw [narrowStep_of_lockout (s := s.narrowRestarted start) hmode] at hexec
    exact hexec
  · have hexec := exec_narrowStep_of_ran hload hlock htimer hran
    rw [narrowStep_of_running (s := s.narrowRestarted start) hrun] at hexec
    obtain ⟨k, hmoved⟩ := movedAt_drops (s := (s.narrowRestarted start).narrowReading) (s.narrowRestarted start).road.turnNarrow
      hsound
    have hfree := drops_all (s := (s.narrowRestarted start).narrowReading) (s.narrowRestarted start).road.turnNarrow hsound
      fun e he hen => hdrop.imp_right fun h => h e he hen
    rw [entries_of_same hmoved.outside fun e he hen => (hclear e he hen).2,
      claimStages_of_settled (rd := (s.narrowRestarted start).narrowReading)
        (narrowAhead_eq_none (s := (s.narrowRestarted start).narrowReading) fun e he hen => (hclear e he hen).1)
        fun j => .inl (hfree j)] at hexec
    refine ⟨_, hexec, forall_relation_none hfree, hmoved.stepTimer, hmoved.queue, hmoved.outside.road, hmoved.outside.peers,
      hmoved.outside.order, hmoved.outside.handset, hmoved.counters, hmoved.outside.config, hmoved.outside.time⟩
  · intro s start i e hload hrun htimer hran hroute hsound hpair he hen hinside hentry
    obtain ⟨u, k, hexec, hmoved, hrecord, hpairing⟩ :=
      exec_narrowStep_of_unclaimed hload hrun htimer hran hroute hsound hpair he hen hinside hentry
    have hlen : u.narrow.records.length = u.cfg.narrows.length := by
      rw [hmoved.length, hmoved.outside.cfg]
      exact (relationsSound_iff.1 hsound).1
    have hi : i < u.narrow.records.length := by
      rw [hlen, hmoved.outside.cfg]
      exact (List.getElem?_eq_some_iff.1 he).1
    obtain ⟨hout, hcount, hself, hothers, hbeacon⟩ := enterUnclaimed_spec hlen hi
    rw [hmoved.counters] at hcount
    generalize enterUnclaimed i u = w at *
    have hage : (w.narrowRecord i).waitAge = (u.narrowRecord i).waitAge := by rw [hself]; rfl
    refine ⟨_, hexec, congrArg NarrowRecord.relation hself, congrArg NarrowRecord.inherited hself, hage.trans ?_,
      fun j _ hj => hothers j hj, hbeacon, no_wait_of_pairing (s := w) hpairing fun j => ?_, (hmoved.outside.trans hout).road, hcount⟩
    · rw [hrecord]
      exact apply_ite NarrowRecord.waitAge _ _ _
    · by_cases hj : j = i
      · rw [hj, State.relation, hself]
        exact fun h => Relation.noConfusion h
      · rw [hothers j hj]
        decide
  · intro s start i e hload hrun htimer hran hturn hroute hsound he hholding hleft hfar hclear
    have hexec := exec_narrowStep_of_ran hload (not_config_of_running hload hrun) htimer hran
    rw [narrowStep_of_holding hrun hturn hroute hsound he hholding hleft hfar hclear] at hexec
    exact hexec
  · intro s start i j e r hload hrun htimer hran hturn hsound hpair hstack he hstands hgone hahead hji hr houtside opposing shows
      inherits claims
    have hexec := exec_narrowStep_of_ran hload (not_config_of_running hload hrun) htimer hran
    rw [narrowStep_of_gone hrun hturn hsound he hstands hgone houtside] at hexec
    have hopen : (dropRelation i (s.narrowRestarted start)).stackClosed = false :=
      dropRelation_open (s := s.narrowRestarted start) (stackClosed_of_running hrun hload)
    have hdrop := movedAt_dropRelation (s := s.narrowRestarted start) (i := i)
    have hfree := relation_of_dropRelation (s := s.narrowRestarted start) hsound hstands
    have hquiet := dropRelation_no_wait (s := s.narrowRestarted start) hsound hpair hrun hstands
    have hroom := dropRelation_room (s := s.narrowRestarted start) (i := i) hstack.1
    have hbeacon := dropRelation_beaconNow (s := s.narrowRestarted start) (i := i)
    generalize dropRelation i (s.narrowRestarted start) = v at hexec hopen hdrop hfree hquiet hroom hbeacon
    have hlen : v.narrow.records.length = v.cfg.narrows.length := by
      rw [hdrop.length, hdrop.outside.cfg]
      exact (relationsSound_iff.1 hsound).1
    have hj : j < v.narrow.records.length := by
      rw [hdrop.length]
      exact (List.getElem?_eq_some_iff.1 hr).1
    have hahead' : (s.narrowRestarted start).narrowAhead = some j := hahead
    have hinherits : (s.narrowRestarted start).Inherits j ↔ inherits := Iff.rfl
    have hshows {rel : Relation} (hrel : rel ≠ .none) : (s.narrowRestarted start).opposingShows j rel = true ↔ shows rel :=
      opposingShows_iff_shown j hrel
    have hmoved := movedAt_claimStages (rd := s.narrowRestarted start) hahead' hj hlen hfree
    refine ⟨_, hexec, hmoved.stepTimer.trans hdrop.stepTimer, hmoved.queue.trans hdrop.queue,
      hmoved.counters.trans hdrop.counters, fun k hk => (hmoved.relation hk).trans (hfree k),
      fun h => claimStages_beaconNow (hbeacon h), fun hinh => ?_, fun hnot hno => ?_, fun hnot hc hnoholder hnowaiter => ?_,
      fun hnot hc hshown hroomy => ?_⟩
    · rw [claimStages_of_inherits hahead' hj hlen hfree (hinherits.2 hinh)]
      have hself := enterHolding_record true hj
      exact ⟨congrArg NarrowRecord.relation hself, congrArg NarrowRecord.inherited hself⟩
    · rw [claimStages_of_silent hahead' hj hlen hfree (mt hinherits.1 hnot) hno]
      exact ⟨(hdrop.others j hji).trans hr, hquiet⟩
    · rw [claimStages_asks hahead' hj hlen hfree (mt hinherits.1 hnot) hrun hc hopen hdrop.outside
        (mt (hshows (by decide)).1 hnoholder) (mt (hshows (by decide)).1 hnowaiter)]
      exact ⟨congrArg NarrowRecord.relation (enterAsking_record hj), hquiet⟩
    · obtain ⟨hself, -, hheld, -⟩ := enterWaiting_of_open hopen (hroom hroomy) hj
      have hlen' := movedAt_enterWaiting (s := v) (i := j) |>.length
      rw [claimStages_of_room hahead' hj hlen hfree (mt hinherits.1 hnot) hrun hc hopen hdrop.outside
        (hshown.imp (hshows (by decide)).2 (hshows (by decide)).2) (hroom hroomy)]
      split
      · exact ⟨congrArg NarrowRecord.relation hself, hheld⟩
      · have hcontest := contestPhase_record (s := enterWaiting j v) (i := j) (hlen'.symm ▸ hj)
        rw [hself] at hcontest
        exact ⟨congrArg NarrowRecord.relation hcontest, hheld⟩

end Sys2Proof.Proofs
end
